-- ==== Sys2Proof/Word.lean ====
section
/-! DEFINITION. The word types of the hardware (00_scope.md R7, R9, R11): unsigned, of fixed width, wrapping. -/

namespace Sys2Proof

/-- A byte lane of the 32-bit data bus (R38). -/
abbrev Byte := BitVec 8

/-- `UInt32`: a host register, a command word, a coordinate, the check value. -/
abbrev Word32 := BitVec 32

/-- `UInt64`: a state word, a message word, an ALU operand. -/
abbrev Word64 := BitVec 64

/-- Sixteen 64-bit words: the state file `S` (R17) or the message file `M` (R18). -/
abbrev WordFile := Vector Word64 16

end Sys2Proof
end

