-- ==== Sys2Proof/Config.lean ====
section
/-! DEFINITION. What an implementation fixes and the spec leaves OPEN (00_scope.md R8), and the free values of
reads the spec calls draws (20_memory.md R37, R41). None of the opaque constants has a body that a proof could see. -/

namespace Sys2Proof

/-- The three configuration parameters of R8, as one value: the rules that read a table take it as an argument. -/
structure Params where
  /-- `IV_TABLE` (R27). -/
  ivTable : Fin 16 → Word64
  /-- `SIGMA_LUT[r][j]` (R28): 5-bit entries. -/
  sigmaLut : Fin 12 → Fin 16 → BitVec 5
  /-- `CHECK_CONST` (R88). -/
  checkConst : Word32

/-- R60: a configuration is valid when every entry of its permutation schedule is even. (An even 5-bit entry is at most 30.) -/
def Params.valid (p : Params) : Bool :=
  decide (∀ r : Fin 12, ∀ j : Fin 16, (p.sigmaLut r j).getLsbD 0 = false)

/-- Why a candidate configuration is refused before any machine is built (R60, I5). -/
inductive ConfigError where
  /-- Some entry of `SIGMA_LUT` is odd. -/
  | oddSigmaEntry
  deriving DecidableEq, Repr

/-- R60, I5: a candidate configuration is accepted, or refused by name. -/
def Params.accept (p : Params) : Except ConfigError Params :=
  if p.valid then .ok p else .error .oddSigmaEntry

/-- The parameter `IV_TABLE` (D15). Log entry 10. -/
opaque Config.ivTable : Fin 16 → Word64

/-- The message word that each entry of the permutation schedule selects (R60: the entry is twice this index).
Any valid `SIGMA_LUT` arises from exactly one such table, and no invalid one arises (D16). Log entry 11. -/
opaque Config.sigmaWord : Fin 12 → Fin 16 → BitVec 4

/-- The parameter `CHECK_CONST` (D17). Log entry 10. -/
opaque Config.checkConst : Word32

/-- The n-th draw: the data of a read for which the spec states no value (R37, R41). Log entry 7. -/
opaque Config.draw : Nat → Word32

/-- The configuration of the machine. Each entry of `SIGMA_LUT` is even by construction. -/
def Config.params : Params where
  ivTable := Config.ivTable
  sigmaLut r j := Config.sigmaWord r j ++ 0#1
  checkConst := Config.checkConst

end Sys2Proof
end

