-- ==== Sys2Proof/Syntax.lean ====
section
/-! DEFINITION. The instructions: one constructor for each row of spec/opcode_table.json. An instruction is one command
word written to CTRL (30_encoding.md R50, R51). The reserved bits 31:14 are ignored (R51), so no constructor holds them;
`irqEn`, `cin` and `rot` are written to CTRL by every command word without SRST (43_control.md R98). -/

namespace Sys2Proof

/-- The command words of format C (R51), by the rows of the opcode table. -/
inductive Instr where
  /-- NOP, OP 0x0 (R101). -/
  | nop (irqEn cin : Bool) (rot : BitVec 6)
  /-- LOADIV, OP 0x1 (R79). -/
  | loadiv (irqEn cin : Bool) (rot : BitVec 6)
  /-- MIX, OP 0x2 (R80): its indices stand in the register MIX_SEL. -/
  | mix (irqEn cin : Bool) (rot : BitVec 6)
  /-- COMPRESS, OP 0x3 (R81). -/
  | compress (irqEn cin : Bool) (rot : BitVec 6)
  /-- SEARCH, OP 0x4 (R91). -/
  | search (irqEn cin : Bool) (rot : BitVec 6)
  /-- ADD64, OP 0x5 (R70): `cin` is the carry-in. -/
  | add64 (irqEn cin : Bool) (rot : BitVec 6)
  /-- ROTR64, OP 0x6 (R71): `rot` is the amount. -/
  | rotr64 (irqEn cin : Bool) (rot : BitVec 6)
  /-- START with the reserved OP 0x7 (R54, R108). -/
  | illegal7 (irqEn cin : Bool) (rot : BitVec 6)
  /-- START with a reserved OP 0x8 to 0xF (R54, R108): `op` is the whole field, well formed when bit 3 is set. -/
  | illegal8F (op : BitVec 4) (irqEn cin : Bool) (rot : BitVec 6)
  /-- SRST, the soft reset (R100): every other bit is ignored (R52). -/
  | srst
  /-- A CTRL write with neither START nor SRST (R103). -/
  | ctrlset (irqEn cin : Bool) (op : BitVec 4) (rot : BitVec 6)
  deriving DecidableEq, Repr

end Sys2Proof
end

