-- ==== Sys2Proof/Machine/State.lean ====
section
/-! DEFINITION. The state of the machine: everything 10_state.md gives it (R16), the inputs still to come, the bus's
last answer and the counter of draws. Plain data throughout. -/

namespace Sys2Proof.Machine

/-- The seven operations (30_encoding.md R53). A reserved code never stays latched (43_control.md R99). -/
inductive Op where
  | nop | loadiv | mix | compress | search | add64 | rotr64
  deriving DecidableEq, Repr

/-- The persistent fields of CTRL (R21). START and SRST are strobes and hold nothing; bits 31:14 are reserved. -/
structure Ctrl where
  irqEn : Bool
  cin : Bool
  op : BitVec 4
  rot : BitVec 6
  deriving DecidableEq, Repr

/-- The stored bits of STATUS (R22). BUSY is not here: it reads 1 exactly when `cur_op` is not IDLE (R30). -/
structure Status where
  done : Bool
  found : Bool
  cout : Bool
  err : BitVec 4
  wrIgn : Bool
  deriving DecidableEq, Repr

/-- The fields of MIX_SEL (R23); bits 31:24 are reserved. -/
structure MixSel where
  a : BitVec 4
  b : BitVec 4
  c : BitVec 4
  d : BitVec 4
  mx : BitVec 4
  my : BitVec 4
  deriving DecidableEq, Repr

/-- The twenty 32-bit parameter registers at 0x014 to 0x060, in the order of R20's table. -/
inductive Param where
  | offsetX | offsetY | blockSize | difficulty
  | work0R | work0G | work0B | work0A
  | work1R | work1G | work1B | work1A
  | hash0C0 | hash0C1 | hash0C2 | hash0C3
  | hash1C0 | hash1C1 | hash1C2 | hash1C3
  deriving DecidableEq, Repr

/-- The contents of the parameter registers. -/
abbrev ParamFile := Vector Word32 20

/-- What the core holds while an operation runs (R30): the operation, and the values sampled at START (R99). -/
structure Latch where
  op : Op
  cin : Bool
  rot : BitVec 6
  mixSel : MixSel
  deriving DecidableEq, Repr

/-- The phases of a visit (R31, R97). -/
inductive Phase where
  | load | build | rounds | test
  deriving DecidableEq, Repr

/-- The sequencer position (R31). `k` holds the micro-step less one: 0 stands for statement 1 and 7 for statement 8
(log entry 5). -/
structure Position where
  yy : Word32
  xx : Word32
  phase : Phase
  r : Fin 12
  i : Fin 8
  k : Fin 8
  deriving DecidableEq, Repr

/-- One host bus access (R35, R37): byte offset in the window, size in bytes, and the data of a write. -/
inductive Access where
  | read (addr size : Nat)
  | write (addr size : Nat) (data : Word32)
  deriving DecidableEq, Repr

/-- What the outside does next (log entry 1): a host access, the hardware reset (R121), or nothing while the core takes
`n` steps of its own. -/
inductive Input where
  | access (a : Access)
  | core (n : Nat)
  | reset
  deriving DecidableEq, Repr

/-- The bus's answer to an access (R37, R39, R40; log entry 9). -/
inductive Response where
  | readOk (data : Word32)
  | writeOk
  /-- The ERROR response to a read: the data is a draw. -/
  | readError (data : Word32)
  | writeError
  deriving DecidableEq, Repr

/-- The machine. -/
structure State where
  ctrl : Ctrl
  status : Status
  mixSel : MixSel
  /-- RESULT (R24). -/
  result : Word32
  /-- CHECK (R25). -/
  check : Word32
  params : ParamFile
  /-- ALU_A, ALU_B, ALU_R (R26): each is its HI register over its LO register. -/
  aluA : Word64
  aluB : Word64
  aluR : Word64
  /-- The state file (R17). -/
  S : WordFile
  /-- The message file (R18). -/
  M : WordFile
  /-- The operation latch (R30): `none` is IDLE. -/
  curOp : Option Latch
  pos : Position
  /-- The inputs still to come, next first (log entry 1). -/
  inputs : List Input
  /-- The bus's answer to the last access (log entry 9). -/
  resp : Option Response
  /-- How many draws have been made (log entry 7). -/
  draws : Nat
  deriving DecidableEq, Repr

/-- The sequencer position after reset (R122): yy = xx = 0, LOAD, r = i = 0, k = 1. -/
def Position.start : Position := ⟨0, 0, .load, 0, 0, 0⟩

/-- Every MIX_SEL field 0 (R23). -/
def MixSel.zero : MixSel := ⟨0, 0, 0, 0, 0, 0⟩

/-- The state after reset (R122). `inputs`, `resp` and `draws` are the model's own fields (log entries 1, 7, 9). -/
def State.reset : State where
  ctrl := ⟨false, false, 0, 0⟩
  status := ⟨false, false, false, 0, false⟩
  mixSel := MixSel.zero
  result := 0
  check := 0
  params := Vector.replicate 20 0
  aluA := 0
  aluB := 0
  aluR := 0
  S := Vector.replicate 16 0
  M := Vector.replicate 16 0
  curOp := none
  pos := Position.start
  inputs := []
  resp := none
  draws := 0

/-- Why the machine stops. -/
inductive Fault where
  /-- Raised by `deliver` (Machine/Window.lean) for a host access at an offset outside the 512-byte window: it is not
  delivered to the core, and what the platform does is outside the spec (R35, I4). SAFE: the model stops where a platform
  goes on in a way the spec does not state (log entry 8). -/
  | outsideWindow (addr : Nat)
  deriving DecidableEq, Repr

/-- Why an instruction has no meaning. -/
inductive Refusal where
  /-- An arm of `exec` whose instruction has no meaning yet. SAFE. No arm raises it: every instruction is modelled. -/
  | notModelled (mnemonic : String)
  deriving DecidableEq, Repr

/-- What the next input asks of the machine: it is dealt with, or it writes a command word to CTRL. -/
inductive Turn where
  | settled (o : Host.Outcome State Fault Refusal)
  | command (i : Instr) (s : State)

end Sys2Proof.Machine
end

