-- ==== Sys2Proof/Machine/Operands.lean ====
section
/-! DEFINITION. Operand forms and packed formats: halves of 64-bit quantities (20_memory.md R38), indices into the files
(30_encoding.md R55), the parameter registers by name (10_state.md R20), and the formats W0, WH, P and L (R57 to R60). -/

namespace Sys2Proof.Machine

/-- Bits 31:0 of a 64-bit quantity: the register at the lower offset (R38). -/
def low32 (x : Word64) : Word32 := x.extractLsb' 0 32

/-- Bits 63:32 of a 64-bit quantity: the register at the upper offset (R38). -/
def high32 (x : Word64) : Word32 := x.extractLsb' 32 32

/-- `hi ++ lo`, the first in the upper bits (R11). -/
def join64 (hi lo : Word32) : Word64 := hi ++ lo

/-- A 4-bit index field, unsigned (R55). -/
def fileIndex (x : BitVec 4) : Fin 16 := ⟨x.toNat, x.isLt⟩

/-- The place of a parameter register: it stands at offset 0x014 + 4 * index (R20). -/
def Param.index : Param → Fin 20
  | .offsetX => 0
  | .offsetY => 1
  | .blockSize => 2
  | .difficulty => 3
  | .work0R => 4
  | .work0G => 5
  | .work0B => 6
  | .work0A => 7
  | .work1R => 8
  | .work1G => 9
  | .work1B => 10
  | .work1A => 11
  | .hash0C0 => 12
  | .hash0C1 => 13
  | .hash0C2 => 14
  | .hash0C3 => 15
  | .hash1C0 => 16
  | .hash1C1 => 17
  | .hash1C2 => 18
  | .hash1C3 => 19

/-- The contents of a parameter register. -/
def readParam (P : ParamFile) (p : Param) : Word32 := P[p.index]

/-- The parameter file with one register written. -/
def writeParam (P : ParamFile) (p : Param) (v : Word32) : ParamFile := P.set p.index v

/-- Format L (R60): the message word that an entry e of the permutation schedule selects, `e >> 1 = e[4:1]`. -/
def sigmaSelect (e : BitVec 5) : Fin 16 := fileIndex (e.extractLsb' 1 4)

/-- Position and index of a coordinate (R84). -/
structure Coord where
  xPos : Word32
  yPos : Word32
  xIndex : Word32
  yIndex : Word32
  deriving DecidableEq, Repr

/-- R84: the absolute coordinate wraps modulo 2^32, then position and index are remainder and quotient by BLOCK_SIZE. -/
def coordOf (P : ParamFile) (xx yy : Word32) : Coord :=
  let bs := readParam P .blockSize
  let ux := readParam P .offsetX + xx
  let uy := readParam P .offsetY + yy
  { xPos := ux % bs, yPos := uy % bs, xIndex := ux / bs, yIndex := uy / bs }

/-- Format W0, low half (R57): 32-bit shifts and ors, no operand masked. -/
def packP0 (P : ParamFile) (c : Coord) : Word32 :=
  c.xPos ||| (c.yPos <<< 8) ||| ((readParam P .work0B ^^^ c.xIndex) <<< 16) |||
    ((readParam P .work0A ^^^ c.yIndex) <<< 24)

/-- Format W0, high half (R57). -/
def packP1 (P : ParamFile) : Word32 :=
  readParam P .work1R ||| (readParam P .work1G <<< 8) ||| (readParam P .work1B <<< 16) |||
    (readParam P .work1A <<< 24)

/-- The whole message block of a coordinate (R57, R58, R86): formats W0 and WH, then eleven zero words. -/
def buildMessage (P : ParamFile) (c : Coord) : WordFile :=
  #v[ join64 (packP1 P) (packP0 P c),
      join64 (readParam P .hash0C1) (readParam P .hash0C0),
      join64 (readParam P .hash0C3) (readParam P .hash0C2),
      join64 (readParam P .hash1C1) (readParam P .hash1C0),
      join64 (readParam P .hash1C3) (readParam P .hash1C2),
      0, 0, 0, 0, 0, 0, 0, 0, 0, 0, 0 ]

/-- `zext_32(trunc_8(v))` (R11, R59). -/
def lane8 (v : Word32) : Word32 := (v.setWidth 8).setWidth 32

/-- Format P (R59): lanes xIndex + 1, yIndex + 1, xPos, yPos, the first in bits 7:0. -/
def encodeP (c : Coord) : Word32 :=
  lane8 (c.xIndex + 1) ||| (lane8 (c.yIndex + 1) <<< 8) ||| (lane8 c.xPos <<< 16) ||| (lane8 c.yPos <<< 24)

/-- The visit number n of a scan (42_search.md R83): xx = n mod bs, yy = n / bs. -/
def visitXX (bs : Word32) (n : Nat) : Word32 := BitVec.ofNat 32 (n % bs.toNat)

/-- See `visitXX`. -/
def visitYY (bs : Word32) (n : Nat) : Word32 := BitVec.ofNat 32 (n / bs.toNat)

end Sys2Proof.Machine
end

