-- ==== Sys2Proof/Machine/Flags.lean ====
section
/-! DEFINITION. The flags: the words CTRL, STATUS and MIX_SEL read as (10_state.md R21 to R23), the error codes
(60_exceptions.md R104), write-one-to-clear (43_control.md R102), the interrupt output (R110), the carry-out (R64)
and the difficulty test (R88). -/

namespace Sys2Proof.Machine

/-- R30: BUSY is 1 exactly when `cur_op` is not IDLE. -/
def State.busy (s : State) : Bool := s.curOp.isSome

/-- The error codes of R104. Codes 3 to 15 are never produced. -/
inductive ErrCode where
  | ok | invalidArg | illegalOp
  deriving DecidableEq, Repr

/-- The value of STATUS.ERR for each error (R104). -/
def ErrCode.code : ErrCode → BitVec 4
  | .ok => 0
  | .invalidArg => 1
  | .illegalOp => 2

/-- What CTRL reads as (R21, R103): bits 1:0 and 31:14 read 0. -/
def ctrlWord (c : Ctrl) : Word32 :=
  0#18 ++ c.rot ++ c.op ++ BitVec.ofBool c.cin ++ BitVec.ofBool c.irqEn ++ 0#2

/-- What STATUS reads as (R22). -/
def statusWord (s : State) : Word32 :=
  0#23 ++ BitVec.ofBool s.status.wrIgn ++ s.status.err ++ BitVec.ofBool s.status.cout ++
    BitVec.ofBool s.status.found ++ BitVec.ofBool s.status.done ++ BitVec.ofBool s.busy

/-- What MIX_SEL reads as (R23): bits 31:24 read 0. -/
def mixSelWord (m : MixSel) : Word32 := 0#8 ++ m.my ++ m.mx ++ m.d ++ m.c ++ m.b ++ m.a

/-- The fields a write to MIX_SEL stores (R23): bits 31:24 are ignored. -/
def mixSelOf (v : Word32) : MixSel where
  a := v.extractLsb' 0 4
  b := v.extractLsb' 4 4
  c := v.extractLsb' 8 4
  d := v.extractLsb' 12 4
  mx := v.extractLsb' 16 4
  my := v.extractLsb' 20 4

/-- A write to STATUS (R22, R102): DONE is cleared by bit 1, WR_IGN by bit 8, and nothing else changes. -/
def clearByOnes (v : Word32) (st : Status) : Status :=
  { st with done := st.done && !v.getLsbD 1, wrIgn := st.wrIgn && !v.getLsbD 8 }

/-- The interrupt output (R110): `irq = STATUS.DONE & CTRL.IRQ_EN`, a level. -/
def State.irq (s : State) : Bool := s.status.done && s.ctrl.irqEn

/-- The carry-out of the adder unit (R64): `t div 2^64` of the exact sum t, which is 0 or 1. -/
def carryOut (a b : Word64) (cin : Bool) : Bool := (a.toNat + b.toNat + cin.toNat) / 2 ^ 64 == 1

/-- The check value of a compressed state (R88): the low halves of S[0] and S[8] and the constant. -/
def checkValue (p : Params) (S : WordFile) : Word32 := p.checkConst ^^^ low32 S[0] ^^^ low32 S[8]

/-- The difficulty test (R88): unsigned and strict. -/
def exceeds (check difficulty : Word32) : Bool := difficulty.ult check

end Sys2Proof.Machine
end

