-- ==== Sys2Proof/Machine/Ops.lean ====
section
/-! DEFINITION. The shared operations on the state: reset, the CTRL write, START, the end of an operation with or without
an error, a dropped write, and the common form of a command word that starts an operation. -/

namespace Sys2Proof.Machine

/-- The reset event, hardware or soft (70_reset_and_hazards.md R121, R122). What is outside the core stays: the inputs to
come, the bus's last answer and the counter of draws (log entry 16). -/
def resetCore (s : State) : State :=
  { State.reset with inputs := s.inputs, resp := s.resp, draws := s.draws }

/-- The persistent fields of a CTRL write (43_control.md R98, step 2). -/
def setCtrl (irqEn cin : Bool) (op : BitVec 4) (rot : BitVec 6) (s : State) : State :=
  { s with ctrl := ⟨irqEn, cin, op, rot⟩ }

/-- A host write dropped because BUSY is 1 (20_memory.md R42): WR_IGN records it. -/
def dropWrite (s : State) : State := { s with status := { s.status with wrIgn := true } }

/-- The code of an operation (30_encoding.md R53). -/
def Op.code : Op → BitVec 4
  | .nop => 0x0
  | .loadiv => 0x1
  | .mix => 0x2
  | .compress => 0x3
  | .search => 0x4
  | .add64 => 0x5
  | .rotr64 => 0x6

/-- The values sampled at START (R99). -/
def sample (op : Op) (s : State) : Latch := ⟨op, s.ctrl.cin, s.ctrl.rot, s.mixSel⟩

/-- Where the sequencer starts an operation (41_mix_compress.md R78, 42_search.md R97): a compression at
(r, i, k) = (0, 0, 1), a search at its first coordinate. The other operations leave the position alone (log entry 6). -/
def startPosition (op : Op) (p : Position) : Position :=
  match op with
  | .compress => { p with r := 0, i := 0, k := 0 }
  | .search => Position.start
  | _ => p

/-- START accepted, as one step (R99): the operands are sampled, DONE and ERR are cleared, FOUND too for SEARCH, and
the operation is latched, so that BUSY reads 1. -/
def acceptStart (op : Op) (s : State) : State :=
  { s with
    status := { s.status with done := false, err := 0, found := s.status.found && decide (op ≠ .search) }
    curOp := some (sample op s)
    pos := startPosition op s.pos }

/-- `complete(code)`, as one step (60_exceptions.md R105). -/
def complete (e : ErrCode) (s : State) : State :=
  { s with status := { s.status with err := e.code, done := true }, curOp := none }

/-- Taking an error, the machine's one kind of exception (R106, R112): `raise E` ends the operation with its code. Nothing
else is saved, no mode changes and nothing is vectored. -/
def raiseError (e : ErrCode) (s : State) : State := complete e s

/-- The way back from an error or a completion (R113): there is no return instruction, and the host acknowledges by
clearing DONE. This is the STATUS write of R102. -/
def acknowledge (v : Word32) (s : State) : State := { s with status := clearByOnes v s.status }

/-- A command word with START and an operation code of R53. While BUSY it is dropped (R42, R99). Otherwise the fields are
written, START is accepted, and the core performs the operation: when no input is to come, nothing can be seen or done
between START and the completion, and the whole rule is this one step; when one is, the operation is left running and
the order of the inputs says how far it has come at each (log entry 2). -/
def startOp (op : Op) (irqEn cin : Bool) (rot : BitVec 6) (rule : Latch → State → State) (s : State) :
    Host.Outcome State Fault Refusal :=
  if s.busy then .next (dropWrite s)
  else
    let started := acceptStart op (setCtrl irqEn cin op.code rot s)
    if s.inputs.isEmpty then .next (rule (sample op (setCtrl irqEn cin op.code rot s)) started)
    else .next started

/-- A command word with START and a reserved code (R54, R99, R108): the fields are written, START clears DONE and ERR, and
ILLEGAL_OP is raised in the same step. FOUND and COUT keep their values. -/
def startReserved (irqEn cin : Bool) (op : BitVec 4) (rot : BitVec 6) (s : State) : Host.Outcome State Fault Refusal :=
  if s.busy then .next (dropWrite s)
  else
    let s1 := setCtrl irqEn cin op rot s
    .next (raiseError .illegalOp { s1 with status := { s1.status with done := false, err := 0 } })

end Sys2Proof.Machine
end

