-- ==== Sys2Proof/Machine/Control.lean ====
section
/-! DEFINITION. The host-control commands (43_control.md): NOP, the reserved codes, the soft reset, and the CTRL write that
starts nothing. -/

namespace Sys2Proof.Machine

/-- NOP from its START to its completion (R101): it only completes. -/
def ruleNop (s : State) : State := complete .ok s

/-- NOP (R101). -/
def execNop (irqEn cin : Bool) (rot : BitVec 6) (s : State) : Host.Outcome State Fault Refusal :=
  startOp .nop irqEn cin rot (fun _ => ruleNop) s

/-- START with the reserved code 0x7 (R54, R108). -/
def execIllegal7 (irqEn cin : Bool) (rot : BitVec 6) (s : State) : Host.Outcome State Fault Refusal :=
  startReserved irqEn cin 0x7 rot s

/-- START with a reserved code 0x8 to 0xF (R54, R108). -/
def execIllegal8F (op : BitVec 4) (irqEn cin : Bool) (rot : BitVec 6) (s : State) : Host.Outcome State Fault Refusal :=
  startReserved irqEn cin op rot s

/-- SRST (R100): the reset event, whether BUSY is 0 or 1. A running operation is abandoned without a completion. -/
def execSrst (s : State) : Host.Outcome State Fault Refusal := .next (resetCore s)

/-- A CTRL write with neither strobe (R98, R103): the persistent fields only; any OP value may be stored. While BUSY it is
dropped (R42). -/
def execCtrlset (irqEn cin : Bool) (op : BitVec 4) (rot : BitVec 6) (s : State) : Host.Outcome State Fault Refusal :=
  if s.busy then .next (dropWrite s) else .next (setCtrl irqEn cin op rot s)

end Sys2Proof.Machine
end

