-- ==== Sys2Proof/Machine/Arith.lean ====
section
/-! DEFINITION. The 64-bit adder with carry and the 64-bit barrel rotator (40_arith.md): the two units, and the operations
ADD64 and ROTR64 that drive them. -/

namespace Sys2Proof.Machine

/-- The adder unit's sum (R64): the exact sum modulo 2^64. -/
def addSum (a b : Word64) (cin : Bool) : Word64 := BitVec.ofNat 64 (a.toNat + b.toNat + cin.toNat)

/-- The rotator unit (R67): a right rotation by any amount 0 to 63. -/
def rotr64 (x : Word64) (n : BitVec 6) : Word64 :=
  if n = 0 then x else (x >>> n.toNat) ||| (x <<< (64 - n.toNat))

/-- The state writes of ADD64 (R70), with the carry-in sampled at START. -/
def writeAdd64 (l : Latch) (s : State) : State :=
  { s with
    aluR := addSum s.aluA s.aluB l.cin
    status := { s.status with cout := carryOut s.aluA s.aluB l.cin } }

/-- ADD64 from its START to its completion (R70). -/
def ruleAdd64 (l : Latch) (s : State) : State := complete .ok (writeAdd64 l s)

/-- ADD64 (R70). -/
def execAdd64 (irqEn cin : Bool) (rot : BitVec 6) (s : State) : Host.Outcome State Fault Refusal :=
  startOp .add64 irqEn cin rot ruleAdd64 s

/-- The state writes of ROTR64 (R71), with the amount sampled at START. -/
def writeRotr64 (l : Latch) (s : State) : State := { s with aluR := rotr64 s.aluA l.rot }

/-- ROTR64 from its START to its completion (R71). -/
def ruleRotr64 (l : Latch) (s : State) : State := complete .ok (writeRotr64 l s)

/-- ROTR64 (R71). -/
def execRotr64 (irqEn cin : Bool) (rot : BitVec 6) (s : State) : Host.Outcome State Fault Refusal :=
  startOp .rotr64 irqEn cin rot ruleRotr64 s

end Sys2Proof.Machine
end

