-- ==== Sys2Proof/Machine/MixCompress.lean ====
section
/-! DEFINITION. The mixing primitive and the compression round sequencer (41_mix_compress.md), and the operations LOADIV,
MIX and COMPRESS. -/

namespace Sys2Proof.Machine

/-- `add64(dst, addend)` (40_arith.md R65): carry-in 0, the carry-out discarded. -/
def addTo (dst : Fin 16) (addend : Word64) (S : WordFile) : WordFile := S.set dst (addSum S[dst] addend false)

/-- `addFromState64(dst, src)` (R65): the source is read before the destination is written. -/
def addFromState (dst src : Fin 16) (S : WordFile) : WordFile := addTo dst S[src] S

/-- `S[dst] <- rotr64(S[dst] ^ S[src], n)`, the even statements of R72. -/
def xorRotate (dst src : Fin 16) (n : BitVec 6) (S : WordFile) : WordFile :=
  S.set dst (rotr64 (S[dst] ^^^ S[src]) n)

/-- Statement k + 1 of the mixing primitive (R72). Indices may repeat (R73): each statement reads what the earlier
ones wrote. -/
def mixStep (k : Fin 8) (a b c d : Fin 16) (mx my : Word64) (S : WordFile) : WordFile :=
  match k with
  | 0 => addTo a mx (addFromState a b S)
  | 1 => xorRotate d a 32 S
  | 2 => addFromState c d S
  | 3 => xorRotate b c 24 S
  | 4 => addTo a my (addFromState a b S)
  | 5 => xorRotate d a 16 S
  | 6 => addFromState c d S
  | 7 => xorRotate b c 63 S

/-- The mixing primitive (R72): its eight statements in textual order. -/
@[irreducible] def mix (a b c d : Fin 16) (mx my : Word64) (S : WordFile) : WordFile :=
  (List.finRange 8).foldl (fun S k => mixStep k a b c d mx my S) S

/-- The four state words of a mix. -/
structure Quad where
  a : Fin 16
  b : Fin 16
  c : Fin 16
  d : Fin 16
  deriving DecidableEq, Repr

/-- The fixed groupings of R74. -/
def group (i : Fin 8) : Quad :=
  match i with
  | 0 => ⟨0, 4, 8, 12⟩
  | 1 => ⟨1, 5, 9, 13⟩
  | 2 => ⟨2, 6, 10, 14⟩
  | 3 => ⟨3, 7, 11, 15⟩
  | 4 => ⟨0, 5, 10, 15⟩
  | 5 => ⟨1, 6, 11, 12⟩
  | 6 => ⟨2, 7, 8, 13⟩
  | 7 => ⟨3, 4, 9, 14⟩

/-- `mx(r, i)` (R75): entry 2i of round r's segment. -/
def messageX (p : Params) (M : WordFile) (r : Fin 12) (i : Fin 8) : Word64 :=
  M[sigmaSelect (p.sigmaLut r ⟨2 * i.val, by omega⟩)]

/-- `my(r, i)` (R75): entry 2i + 1 of round r's segment. -/
def messageY (p : Params) (M : WordFile) (r : Fin 12) (i : Fin 8) : Word64 :=
  M[sigmaSelect (p.sigmaLut r ⟨2 * i.val + 1, by omega⟩)]

/-- Statement k + 1 of mix i of round r (R72, R74, R75): what one step of the sequencer does to S (R78). -/
@[irreducible] def roundStep (p : Params) (M : WordFile) (r : Fin 12) (i k : Fin 8) (S : WordFile) : WordFile :=
  mixStep k (group i).a (group i).b (group i).c (group i).d (messageX p M r i) (messageY p M r i) S

/-- Mix i of round r (R76). -/
@[irreducible] def roundMix (p : Params) (M : WordFile) (r : Fin 12) (i : Fin 8) (S : WordFile) : WordFile :=
  mix (group i).a (group i).b (group i).c (group i).d (messageX p M r i) (messageY p M r i) S

/-- The eight mixes of round r (R76). -/
@[irreducible] def mixRound (p : Params) (M : WordFile) (r : Fin 12) (S : WordFile) : WordFile :=
  (List.finRange 8).foldl (fun S i => roundMix p M r i S) S

/-- The compression function (R76): twelve rounds. Only S is written. -/
@[irreducible] def compressFile (p : Params) (M S : WordFile) : WordFile :=
  (List.finRange 12).foldl (fun S r => mixRound p M r S) S

/-- The state file loaded from `IV_TABLE` (R79, R85). -/
@[irreducible] def ivFile (p : Params) : WordFile := Vector.ofFn p.ivTable

/-- Where the sequencer stands after a compression (R78): it ends after (11, 7, 8). -/
def roundsEnd (p : Position) : Position := { p with r := 11, i := 7, k := 7 }

/-- The state writes of LOADIV (R79). -/
def writeLoadiv (p : Params) (s : State) : State := { s with S := ivFile p }

/-- LOADIV from its START to its completion (R79). -/
def ruleLoadiv (p : Params) (s : State) : State := complete .ok (writeLoadiv p s)

/-- LOADIV (R79). -/
def execLoadiv (irqEn cin : Bool) (rot : BitVec 6) (s : State) : Host.Outcome State Fault Refusal :=
  startOp .loadiv irqEn cin rot (fun _ => ruleLoadiv Config.params) s

/-- The state writes of MIX (R80): indices as sampled at START, the message words read before statement 1. -/
def writeMix (l : Latch) (s : State) : State :=
  { s with
    S := mix (fileIndex l.mixSel.a) (fileIndex l.mixSel.b) (fileIndex l.mixSel.c) (fileIndex l.mixSel.d)
      s.M[fileIndex l.mixSel.mx] s.M[fileIndex l.mixSel.my] s.S }

/-- MIX from its START to its completion (R80). -/
def ruleMix (l : Latch) (s : State) : State := complete .ok (writeMix l s)

/-- MIX (R80). -/
def execMix (irqEn cin : Bool) (rot : BitVec 6) (s : State) : Host.Outcome State Fault Refusal :=
  startOp .mix irqEn cin rot ruleMix s

/-- The state writes of COMPRESS (R81): no reload of S and no building of M. -/
def writeCompress (p : Params) (s : State) : State :=
  { s with S := compressFile p s.M s.S, pos := roundsEnd s.pos }

/-- COMPRESS from its START to its completion (R81). -/
def ruleCompress (p : Params) (s : State) : State := complete .ok (writeCompress p s)

/-- COMPRESS (R81). -/
def execCompress (irqEn cin : Bool) (rot : BitVec 6) (s : State) : Host.Outcome State Fault Refusal :=
  startOp .compress irqEn cin rot (fun _ => ruleCompress Config.params) s

end Sys2Proof.Machine
end

