-- ==== Sys2Proof/Machine/Search.lean ====
section
/-! DEFINITION. The proof-of-work search datapath and the operation SEARCH (42_search.md). -/

namespace Sys2Proof.Machine

/-- The visit of one coordinate up to its check value (R84 to R88): S reloaded, all of M built, the compression, CHECK. -/
def visit (p : Params) (xx yy : Word32) (s : State) : State :=
  let M := buildMessage s.params (coordOf s.params xx yy)
  let S := compressFile p M (ivFile p)
  { s with S := S, M := M, check := checkValue p S, pos := roundsEnd ⟨yy, xx, .test, 0, 0, 0⟩ }

/-- The writes of a success (R89): RESULT in format P, and FOUND. -/
def reportFound (xx yy : Word32) (s : State) : State :=
  { s with
    result := encodeP (coordOf s.params xx yy)
    status := { s.status with found := true } }

/-- The write of an exhausted scan (R90). -/
def reportNone (s : State) : State := { s with result := 0 }

/-- The scan from visit number n on, with `fuel` visits left (R83, R89, R90): it ends at the first success. -/
def scan (p : Params) (fuel n : Nat) (s : State) : State :=
  match fuel with
  | 0 => reportNone s
  | fuel + 1 =>
    let bs := readParam s.params .blockSize
    let t := visit p (visitXX bs n) (visitYY bs n) s
    if exceeds t.check (readParam t.params .difficulty) then reportFound (visitXX bs n) (visitYY bs n) t
    else scan p fuel (n + 1) t

/-- SEARCH from its START to its completion (R82, R91): BLOCK_SIZE 0 is refused before anything else; otherwise at most
BLOCK_SIZE squared coordinates are visited. -/
def ruleSearch (p : Params) (s : State) : State :=
  let bs := readParam s.params .blockSize
  if bs = 0 then raiseError .invalidArg s
  else complete .ok (scan p (bs.toNat * bs.toNat) 0 s)

/-- SEARCH (R91). -/
def execSearch (irqEn cin : Bool) (rot : BitVec 6) (s : State) : Host.Outcome State Fault Refusal :=
  startOp .search irqEn cin rot (fun _ => ruleSearch Config.params) s

end Sys2Proof.Machine
end

