-- ==== Sys2Proof/Machine/Dispatch.lean ====
section
/-! DEFINITION. One arm per constructor of Instr. -/

namespace Sys2Proof.Machine

/-- What a command word written to CTRL does (43_control.md R98). -/
def exec (i : Instr) (s : State) : Host.Outcome State Fault Refusal :=
  match i with
  | .nop irqEn cin rot => Sys2Proof.Machine.execNop irqEn cin rot s
  | .loadiv irqEn cin rot => Sys2Proof.Machine.execLoadiv irqEn cin rot s
  | .mix irqEn cin rot => Sys2Proof.Machine.execMix irqEn cin rot s
  | .compress irqEn cin rot => Sys2Proof.Machine.execCompress irqEn cin rot s
  | .search irqEn cin rot => Sys2Proof.Machine.execSearch irqEn cin rot s
  | .add64 irqEn cin rot => Sys2Proof.Machine.execAdd64 irqEn cin rot s
  | .rotr64 irqEn cin rot => Sys2Proof.Machine.execRotr64 irqEn cin rot s
  | .illegal7 irqEn cin rot => Sys2Proof.Machine.execIllegal7 irqEn cin rot s
  | .illegal8F op irqEn cin rot => Sys2Proof.Machine.execIllegal8F op irqEn cin rot s
  | .srst => Sys2Proof.Machine.execSrst s
  | .ctrlset irqEn cin op rot => Sys2Proof.Machine.execCtrlset irqEn cin op rot s

end Sys2Proof.Machine
end

