-- ==== Sys2Proof/WellFormed.lean ====
section
/-! DEFINITION. Which terms of the syntax an encoding admits. -/

namespace Sys2Proof

/-- The fields of every constructor have the widths of format C, so one check remains: the table's row for OP 0x8 to 0xF
holds only operation codes whose upper bit is set (30_encoding.md R53, R54). -/
def Instr.wf : Instr → Bool
  | .nop _ _ _ => true
  | .loadiv _ _ _ => true
  | .mix _ _ _ => true
  | .compress _ _ _ => true
  | .search _ _ _ => true
  | .add64 _ _ _ => true
  | .rotr64 _ _ _ => true
  | .illegal7 _ _ _ => true
  | .illegal8F op _ _ _ => op.getLsbD 3
  | .srst => true
  | .ctrlset _ _ _ _ => true

end Sys2Proof
end

