-- ==== Sys2Proof/Decode.lean ====
section
/-! DEFINITION. The decoder of command words (30_encoding.md R50 to R54), total on any bytes and rejecting by name, the
encoder written from the same table, and the rows of the opcode table. -/

namespace Sys2Proof

/-- Field IRQ_EN, bit 2 (R51). -/
def fieldIrqEn (w : Word32) : Bool := w.getLsbD 2

/-- Field CIN, bit 3 (R51). -/
def fieldCin (w : Word32) : Bool := w.getLsbD 3

/-- Field OP, bits 7:4 (R51). -/
def fieldOp (w : Word32) : BitVec 4 := w.extractLsb' 4 4

/-- Field ROT, bits 13:8 (R51). -/
def fieldRot (w : Word32) : BitVec 6 := w.extractLsb' 8 6

/-- The operation-code map of R53, for a command word with START. -/
def decodeStart (op : BitVec 4) (irqEn cin : Bool) (rot : BitVec 6) : Instr :=
  match op with
  | 0x0 => .nop irqEn cin rot
  | 0x1 => .loadiv irqEn cin rot
  | 0x2 => .mix irqEn cin rot
  | 0x3 => .compress irqEn cin rot
  | 0x4 => .search irqEn cin rot
  | 0x5 => .add64 irqEn cin rot
  | 0x6 => .rotr64 irqEn cin rot
  | 0x7 => .illegal7 irqEn cin rot
  | reserved => .illegal8F reserved irqEn cin rot

/-- R52: the first case that applies. Every 32-bit word is a command word, and bits 31:14 never change it. -/
def decodeWord (w : Word32) : Instr :=
  if w.getLsbD 1 then .srst
  else if w.getLsbD 0 then decodeStart (fieldOp w) (fieldIrqEn w) (fieldCin w) (fieldRot w)
  else .ctrlset (fieldIrqEn w) (fieldCin w) (fieldOp w) (fieldRot w)

/-- Why bytes hold no command word. -/
inductive DecodeError where
  /-- Fewer than four bytes: every command word is exactly 32 bits (R50). -/
  | truncated
  deriving DecidableEq, Repr

/-- Four byte lanes as one word, lane 0 first: lane j carries bits 8j+7:8j (20_memory.md R38). -/
def wordOfLanes (l0 l1 l2 l3 : Byte) : Word32 := l3 ++ l2 ++ l1 ++ l0

/-- The byte lanes of a word, lane 0 first (R38). -/
def lanesOfWord (w : Word32) : List Byte :=
  [w.extractLsb' 0 8, w.extractLsb' 8 8, w.extractLsb' 16 8, w.extractLsb' 24 8]

/-- The decoder on bytes: one command word and the bytes after it. -/
def decode : List Byte → Except DecodeError (Instr × List Byte)
  | l0 :: l1 :: l2 :: l3 :: rest => .ok (decodeWord (wordOfLanes l0 l1 l2 l3), rest)
  | _ => .error .truncated

/-- A word of format C from its fields, reserved bits 0 (R51). -/
def commandWord (rot : BitVec 6) (op : BitVec 4) (cin irqEn srst start : Bool) : Word32 :=
  0#18 ++ rot ++ op ++ BitVec.ofBool cin ++ BitVec.ofBool irqEn ++ BitVec.ofBool srst ++ BitVec.ofBool start

/-- The command word of an instruction (R51, R53), with every bit that decoding ignores 0. -/
def encode : Instr → Word32
  | .nop irqEn cin rot => commandWord rot 0x0 cin irqEn false true
  | .loadiv irqEn cin rot => commandWord rot 0x1 cin irqEn false true
  | .mix irqEn cin rot => commandWord rot 0x2 cin irqEn false true
  | .compress irqEn cin rot => commandWord rot 0x3 cin irqEn false true
  | .search irqEn cin rot => commandWord rot 0x4 cin irqEn false true
  | .add64 irqEn cin rot => commandWord rot 0x5 cin irqEn false true
  | .rotr64 irqEn cin rot => commandWord rot 0x6 cin irqEn false true
  | .illegal7 irqEn cin rot => commandWord rot 0x7 cin irqEn false true
  | .illegal8F op irqEn cin rot => commandWord rot op cin irqEn false true
  | .srst => commandWord 0 0 false false true false
  | .ctrlset irqEn cin op rot => commandWord rot op cin irqEn false false

/-- The instruction in a word of `nbits` bits, the bits above 0, laid out in byte lanes and given to the decoder.
Every row of the table has 32 bits; a wider number is no command word. -/
def decodeTableWord (nbits w : Nat) : Option Instr :=
  if nbits ≤ 32 ∧ w < 2 ^ nbits then
    match decode (lanesOfWord (BitVec.ofNat 32 w)) with
    | .ok (i, _) => some i
    | .error _ => none
  else none

/-- A row of spec/opcode_table.json: a word belongs to it when `word &&& mask = pattern`. -/
structure OpcodeRow where
  mnemonic : String
  mask : Word32
  pattern : Word32
  deriving DecidableEq, Repr

/-- The opcode table, row by row in its order. -/
def opcodeRows : List OpcodeRow :=
  [ ⟨"NOP", 0x000000F3, 0x00000001⟩,
    ⟨"LOADIV", 0x000000F3, 0x00000011⟩,
    ⟨"MIX", 0x000000F3, 0x00000021⟩,
    ⟨"COMPRESS", 0x000000F3, 0x00000031⟩,
    ⟨"SEARCH", 0x000000F3, 0x00000041⟩,
    ⟨"ADD64", 0x000000F3, 0x00000051⟩,
    ⟨"ROTR64", 0x000000F3, 0x00000061⟩,
    ⟨"ILLEGAL__OP_0x7", 0x000000F3, 0x00000071⟩,
    ⟨"ILLEGAL__OP_0x8-0xF", 0x00000083, 0x00000081⟩,
    ⟨"SRST", 0x00000002, 0x00000002⟩,
    ⟨"CTRLSET__no_start", 0x00000003, 0x00000000⟩ ]

/-- Does a word belong to a row? -/
def OpcodeRow.holds (row : OpcodeRow) (w : Word32) : Bool := w &&& row.mask == row.pattern

/-- The mnemonic of an instruction's row. -/
def Instr.mnemonic : Instr → String
  | .nop _ _ _ => "NOP"
  | .loadiv _ _ _ => "LOADIV"
  | .mix _ _ _ => "MIX"
  | .compress _ _ _ => "COMPRESS"
  | .search _ _ _ => "SEARCH"
  | .add64 _ _ _ => "ADD64"
  | .rotr64 _ _ _ => "ROTR64"
  | .illegal7 _ _ _ => "ILLEGAL__OP_0x7"
  | .illegal8F _ _ _ _ => "ILLEGAL__OP_0x8-0xF"
  | .srst => "SRST"
  | .ctrlset _ _ _ _ => "CTRLSET__no_start"

end Sys2Proof
end

