-- ==== Sys2Proof/Machine/Sequencer.lean ====
section
/-! DEFINITION. The core as an agent of its own: one step of the running operation (10_state.md R30, R31;
41_mix_compress.md R78; 42_search.md R97). The order is the spec's reference order; no host access can see it (R41, R77).
Log entries 3, 4 and 6. -/

namespace Sys2Proof.Machine

/-- Is (r, i, k) the last statement of a compression, (11, 7, 8) (R78)? -/
def Position.atLast (p : Position) : Bool := decide (p.r = 11 ∧ p.i = 7 ∧ p.k = 7)

/-- The next (r, i, k) (R78): k runs through the statements, then i advances, then r. -/
def Position.nextStatement (p : Position) : Position :=
  if p.k ≠ 7 then { p with k := p.k + 1 }
  else if p.i ≠ 7 then { p with k := 0, i := p.i + 1 }
  else { p with k := 0, i := 0, r := p.r + 1 }

/-- One statement of the compression at the sequencer's position (R72, R78). -/
def statementAt (p : Params) (s : State) : State :=
  { s with S := roundStep p s.M s.pos.r s.pos.i s.pos.k s.S }

/-- One step of a running COMPRESS (R78, R81): the last statement ends it. -/
def compressStep (p : Params) (s : State) : State :=
  let t := statementAt p s
  if s.pos.atLast then complete .ok t else { t with pos := s.pos.nextStatement }

/-- After a failed test (R83, R90, R97): the next coordinate, row-major with y outer, or RESULT <- 0 and the completion when
there is none. -/
def searchAdvance (s : State) : State :=
  let bs := readParam s.params .blockSize
  if s.pos.xx + 1 < bs then { s with pos := { s.pos with xx := s.pos.xx + 1, phase := .load } }
  else if s.pos.yy + 1 < bs then { s with pos := { s.pos with xx := 0, yy := s.pos.yy + 1, phase := .load } }
  else complete .ok (reportNone s)

/-- The TEST phase (R88, R89, R97). -/
def searchTest (p : Params) (s : State) : State :=
  let t := { s with check := checkValue p s.S }
  if exceeds t.check (readParam t.params .difficulty) then complete .ok (reportFound s.pos.xx s.pos.yy t)
  else searchAdvance t

/-- One step of a running SEARCH (R82, R97): the phases LOAD, BUILD, ROUNDS and TEST of the coordinate (xx, yy). In LOAD and
BUILD of a coordinate after the first, (r, i, k) stays at the last statement, (11, 7, 8), and BUILD ends by setting it to
(0, 0, 1): the spec is silent there, the model's choice (log entry 6). -/
def searchStep (p : Params) (s : State) : State :=
  if readParam s.params .blockSize = 0 then raiseError .invalidArg s
  else
    match s.pos.phase with
    | .load => { s with S := ivFile p, pos := { s.pos with phase := .build } }
    | .build =>
      { s with
        M := buildMessage s.params (coordOf s.params s.pos.xx s.pos.yy)
        pos := { s.pos with phase := .rounds, r := 0, i := 0, k := 0 } }
    | .rounds =>
      let t := statementAt p s
      if s.pos.atLast then { t with pos := { s.pos with phase := .test } } else { t with pos := s.pos.nextStatement }
    | .test => searchTest p s

/-- One step of the core. When idle it keeps every register (60_exceptions.md R119). The step with the operation's last state
writes ends with its completion (R45, R105; log entry 4). -/
def coreStep (s : State) : State :=
  match s.curOp with
  | none => s
  | some l =>
    match l.op with
    | .nop => ruleNop s
    | .loadiv => ruleLoadiv Config.params s
    | .mix => ruleMix l s
    | .compress => compressStep Config.params s
    | .search => searchStep Config.params s
    | .add64 => ruleAdd64 l s
    | .rotr64 => ruleRotr64 l s

/-- `n` steps of the core, with no host access between them. -/
def coreRun : Nat → State → State
  | 0, s => s
  | n + 1, s => coreRun n (coreStep s)

end Sys2Proof.Machine
end

