-- ==== Sys2Proof/Machine/Window.lean ====
section
/-! DEFINITION. The register window (20_memory.md): the register map of 10_state.md R20, reads and writes of the host with
BUSY 0 and 1, the ERROR response, and what each input asks of the machine. -/

namespace Sys2Proof.Machine

/-- Which 32-bit register of a 64-bit quantity (R38). -/
inductive Half where
  | lo | hi
  deriving DecidableEq, Repr

/-- The registers of the window, by the names of R20. -/
inductive Reg where
  | ctrl | status | mixSel | result | check
  | param (p : Param)
  | aluA (h : Half)
  | aluB (h : Half)
  | aluR (h : Half)
  | id
  | reserved
  | state (i : Fin 16) (h : Half)
  | msg (i : Fin 16) (h : Half)
  deriving DecidableEq, Repr

/-- The registers at 0x000 to 0x060, one a word, in the order of R20's table. -/
def controlWindow : List Reg :=
  [ .ctrl, .status, .mixSel, .result, .check,
    .param .offsetX, .param .offsetY, .param .blockSize, .param .difficulty,
    .param .work0R, .param .work0G, .param .work0B, .param .work0A,
    .param .work1R, .param .work1G, .param .work1B, .param .work1A,
    .param .hash0C0, .param .hash0C1, .param .hash0C2, .param .hash0C3,
    .param .hash1C0, .param .hash1C1, .param .hash1C2, .param .hash1C3 ]

/-- The registers at 0x064 to 0x07C. -/
def aluWindow : List Reg := [ .aluA .lo, .aluA .hi, .aluB .lo, .aluB .hi, .aluR .lo, .aluR .hi, .id ]

/-- The registers at 0x000 to 0x07C. -/
def lowWindow : List Reg := controlWindow ++ aluWindow

/-- The half that word number w of a file is: even words are low halves (R17, R18). -/
def halfOfWord (w : Nat) : Half := if w % 2 = 0 then .lo else .hi

/-- The register at a byte offset of the window (R20, R36). -/
def Reg.ofOffset (off : Nat) : Reg :=
  let w := off / 4
  if w < 32 then lowWindow.getD w .reserved
  else if w < 64 then .reserved
  else if w < 96 then .state (Fin.ofNat 16 ((w - 64) / 2)) (halfOfWord w)
  else .msg (Fin.ofNat 16 ((w - 96) / 2)) (halfOfWord w)

/-- How far a half lies from the low half's offset (R38). -/
def Half.offset : Half → Nat
  | .lo => 0
  | .hi => 4

/-- The byte offset of a named register (R17, R18, R20). The reserved offsets have no name. -/
def Reg.offset : Reg → Option Nat
  | .ctrl => some 0x000
  | .status => some 0x004
  | .mixSel => some 0x008
  | .result => some 0x00C
  | .check => some 0x010
  | .param p => some (0x014 + 4 * p.index.val)
  | .aluA h => some (0x064 + h.offset)
  | .aluB h => some (0x06C + h.offset)
  | .aluR h => some (0x074 + h.offset)
  | .id => some 0x07C
  | .reserved => none
  | .state i h => some (0x100 + 8 * i.val + h.offset)
  | .msg i h => some (0x180 + 8 * i.val + h.offset)

/-- The identification constant (R29): the bytes NPOW. -/
def idWord : Word32 := 0x4E504F57

/-- One half of a 64-bit quantity. -/
def readHalf (h : Half) (x : Word64) : Word32 :=
  match h with
  | .lo => low32 x
  | .hi => high32 x

/-- A 64-bit quantity with one half written. -/
def writeHalf (h : Half) (v : Word32) (x : Word64) : Word64 :=
  match h with
  | .lo => join64 (high32 x) v
  | .hi => join64 v (low32 x)

/-- The value a register holds for a read (R39): reserved bits and offsets are 0. -/
def readReg (s : State) : Reg → Word32
  | .ctrl => ctrlWord s.ctrl
  | .status => statusWord s
  | .mixSel => mixSelWord s.mixSel
  | .result => s.result
  | .check => s.check
  | .param p => readParam s.params p
  | .aluA h => readHalf h s.aluA
  | .aluB h => readHalf h s.aluB
  | .aluR h => readHalf h s.aluR
  | .id => idWord
  | .reserved => 0
  | .state i h => readHalf h s.S[i]
  | .msg i h => readHalf h s.M[i]

/-- The registers whose reads are draws while BUSY (R41). -/
def Reg.drawnWhileBusy : Reg → Bool
  | .result | .check | .aluR _ | .state _ _ | .msg _ _ => true
  | .ctrl | .status | .mixSel | .param _ | .aluA _ | .aluB _ | .id | .reserved => false

/-- The RW registers other than CTRL, whose write is a command word, and STATUS, whose write clears by ones (R20, R40). -/
def Reg.plainWritable : Reg → Bool
  | .mixSel | .param _ | .aluA _ | .aluB _ | .state _ _ | .msg _ _ => true
  | .ctrl | .status | .result | .check | .aluR _ | .id | .reserved => false

/-- An RW register takes a value (R40). The other registers keep theirs. -/
def writeReg (s : State) (r : Reg) (v : Word32) : State :=
  match r with
  | .mixSel => { s with mixSel := mixSelOf v }
  | .param p => { s with params := writeParam s.params p v }
  | .aluA h => { s with aluA := writeHalf h v s.aluA }
  | .aluB h => { s with aluB := writeHalf h v s.aluB }
  | .state i h => { s with S := s.S.set i (writeHalf h v s.S[i]) }
  | .msg i h => { s with M := s.M.set i (writeHalf h v s.M[i]) }
  | .ctrl | .status | .result | .check | .aluR _ | .id | .reserved => s

/-- A draw (R37, R41): a free value, unrelated to any other (log entry 7). -/
def takeDraw (answer : Word32 → Response) (s : State) : State :=
  { s with resp := some (answer (Config.draw s.draws)), draws := s.draws + 1 }

/-- A host read (R39, R41). -/
def hostRead (r : Reg) (s : State) : State :=
  if s.busy && r.drawnWhileBusy then takeDraw .readOk s else { s with resp := some (.readOk (readReg s r)) }

/-- A host write to any register but CTRL (R40, R42): STATUS at any time; an RW register when idle, and dropped when busy;
an RO register or a reserved offset never. -/
def hostWrite (r : Reg) (v : Word32) (s : State) : State :=
  if r = .status then acknowledge v s
  else if r.plainWritable then (if s.busy then dropWrite s else writeReg s r v)
  else s

/-- The offset of an access. -/
def Access.addr : Access → Nat
  | .read addr _ => addr
  | .write addr _ _ => addr

/-- The size of an access in bytes. -/
def Access.size : Access → Nat
  | .read _ size => size
  | .write _ size _ => size

/-- The only accepted form (R37): one aligned 32-bit word. -/
def Access.aligned (a : Access) : Bool := decide (a.size = 4 ∧ a.addr % 4 = 0)

/-- An access inside the 512-byte window (R35). -/
def Access.inWindow (a : Access) : Bool := decide (a.addr < 0x200)

/-- The ERROR response (R37): no register and no flag changes, and the data of a read is a draw. -/
def busError (a : Access) (s : State) : State :=
  match a with
  | .read _ _ => takeDraw .readError s
  | .write _ _ _ => { s with resp := some .writeError }

/-- A host access at the window (R35, R37, R39, R40). A write to CTRL is a command word. -/
def deliver (a : Access) (s : State) : Turn :=
  if !a.inWindow then .settled (.fault (.outsideWindow a.addr))
  else if !a.aligned then .settled (.next (busError a s))
  else
    match a with
    | .read addr _ => .settled (.next (hostRead (Reg.ofOffset addr) s))
    | .write addr _ v =>
      let t := { s with resp := some .writeOk }
      if Reg.ofOffset addr = .ctrl then .command (decodeWord v) t
      else .settled (.next (hostWrite (Reg.ofOffset addr) v t))

/-- What the next input asks (log entry 1). With no input to come, the core goes on by itself, one step at a time. -/
def nextTurn (s : State) : Turn :=
  match s.inputs with
  | [] => .settled (.next (coreStep s))
  | .core n :: rest => .settled (.next (coreRun n { s with inputs := rest }))
  | .reset :: rest => .settled (.next (resetCore { s with inputs := rest }))
  | .access a :: rest => deliver a { s with inputs := rest }

end Sys2Proof.Machine
end

