-- ==== Sys2Proof/Machine/Step.lean ====
section
/-! DEFINITION. One step of the machine, and the placing of a command word where the next step takes it. -/

namespace Sys2Proof.Machine

/-- One step: the next input is taken; a command word is decoded and executed (log entry 1). -/
def step (s : State) : Host.Outcome State Fault Refusal :=
  match nextTurn s with
  | .settled o => o
  | .command i t => exec i t

/-- The machine whose next input is the host's write of a command word to CTRL (log entry 13). The core fetches nothing
(20_memory.md R48): a command word comes from the host, so it stands at the head of the inputs. -/
def State.withFetchWord (s : State) (_nbits w : Nat) : State :=
  { s with inputs := .access (.write 0x000 4 (BitVec.ofNat 32 w)) :: s.inputs }

end Sys2Proof.Machine
end

