-- ==== Sys2Proof/Machine/HostProgram.lean ====
section
/-! DEFINITION. The host's side: the assembler's operation lines (30_encoding.md R61), host-program statements (R62),
pseudo-instructions (R63), and a host that runs such a program against the machine. None of it is state of the core (R33,
R62); it stands over `step` and changes nothing of it. Log entry 19. -/

namespace Sys2Proof.Machine

/-- An operation line of R61. The suffix `.i` is `irq`; `ADD64 c` is `carry`; the amount of `ROTR64 n` is any number, and
the assembler refuses one that is out of range. -/
inductive AsmLine where
  | nop (irq : Bool)
  | loadiv (irq : Bool)
  | mix (irq : Bool)
  | compress (irq : Bool)
  | search (irq : Bool)
  | add64 (carry irq : Bool)
  | rotr64 (n : Nat) (irq : Bool)
  deriving DecidableEq, Repr

/-- R61: an operand outside its range is refused. -/
def AsmLine.inRange : AsmLine → Bool
  | .rotr64 n _ => decide (n ≤ 63)
  | .nop _ | .loadiv _ | .mix _ | .compress _ | .search _ | .add64 _ _ => true

/-- The suffix `.i` sets bit 2 (R61). -/
def withIrq (irq : Bool) (w : Word32) : Word32 := if irq then w ||| 0x4 else w

/-- The command word of an operation line (R61), `none` where the assembler refuses it. -/
def assemble (a : AsmLine) : Option Word32 :=
  if a.inRange then
    some (match a with
      | .nop irq => withIrq irq 0x00000001
      | .loadiv irq => withIrq irq 0x00000011
      | .mix irq => withIrq irq 0x00000021
      | .compress irq => withIrq irq 0x00000031
      | .search irq => withIrq irq 0x00000041
      | .add64 carry irq => withIrq irq (if carry then 0x00000059 else 0x00000051)
      | .rotr64 n irq => withIrq irq (0x00000061 ||| (BitVec.ofNat 32 n <<< 8)))
  else none

/-- A host-program statement (R62). A register is given by its offset; names and labels are strings. -/
inductive HostStmt where
  | wr (off : Nat) (value : Word32)
  | rd (off : Nat) (name : String)
  | label (l : String)
  | bne (name : String) (mask value : Word32) (target : String)
  deriving DecidableEq, Repr

/-- The 64-bit names LD64 takes (R63). -/
inductive Wide where
  | aluA
  | aluB
  | state (i : Fin 16)
  | msg (i : Fin 16)
  deriving DecidableEq, Repr

/-- The offset of the LO register of such a name (R17, R18, R20); its HI register is 4 above. -/
def Wide.offset : Wide → Nat
  | .aluA => 0x064
  | .aluB => 0x06C
  | .state i => 0x100 + 8 * i.val
  | .msg i => 0x180 + 8 * i.val

/-- An operation line as a statement: one write to CTRL (R50, R61). -/
def opStmts (a : AsmLine) : Option (List HostStmt) := (assemble a).map fun w => [.wr 0x000 w]

/-- `LD64 name, v` (R63). -/
def ld64Stmts (n : Wide) (v : Word64) : List HostStmt :=
  [.wr n.offset (low32 v), .wr (n.offset + 4) (high32 v)]

/-- The MIX_SEL word of `MIX a, b, c, d, mx, my` (R63). -/
def mixSelImage (a b c d mx my : Nat) : Word32 :=
  BitVec.ofNat 32 (a + b * 2 ^ 4 + c * 2 ^ 8 + d * 2 ^ 12 + mx * 2 ^ 16 + my * 2 ^ 20)

/-- `MIX a, b, c, d, mx, my` (R63): each index is in 0 to 15, or the line is refused. -/
def mixStmts (a b c d mx my : Nat) : Option (List HostStmt) :=
  if a < 16 ∧ b < 16 ∧ c < 16 ∧ d < 16 ∧ mx < 16 ∧ my < 16 then
    some [.wr 0x008 (mixSelImage a b c d mx my), .wr 0x000 0x00000021]
  else none

/-- `WAIT` (R63), with a label and a name that the program uses nowhere else. -/
def waitStmts (l name : String) : List HostStmt := [.label l, .rd 0x004 name, .bne name 0x1 0x0 l]

/-- `CLRDONE` (R63). -/
def clrDoneStmts : List HostStmt := [.wr 0x004 0x00000102]

/-- A host running a program against the machine. -/
structure HostSys where
  prog : List HostStmt
  /-- The next statement. -/
  pc : Nat
  /-- The values of names, latest first. -/
  vars : List (String × Word32)
  core : State
  deriving DecidableEq, Repr

/-- How a turn of the host ends. -/
inductive HostEnd where
  | runs (h : HostSys)
  /-- The program is at its end. -/
  | halted
  /-- An access of this statement got the ERROR response, a fault of the host program (R37). -/
  | busErrorAt (pc : Nat)
  /-- A branch on a name that no statement has set, or to a label that the program lacks: no statement of R62. -/
  | badStatement (pc : Nat)
  /-- The machine stopped. -/
  | stopped (r : Fault)
  deriving DecidableEq, Repr

/-- The value of a name. -/
def lookupVar (vars : List (String × Word32)) (name : String) : Option Word32 :=
  (vars.find? fun p => p.1 == name).map Prod.snd

/-- One access of the host, taken by the machine as its very next input. The empty core turn behind it is an input still to
come, so a START is accepted and left running (log entry 2): whether the completion or the host's next access comes first
(R111, R130) is the schedule's to say, not this definition's (log entry 19). The inputs are as before afterwards. -/
def issue (a : Access) (s : State) : Host.Outcome State Fault Refusal :=
  match step { s with inputs := .access a :: .core 0 :: s.inputs } with
  | .next t => .next { t with inputs := s.inputs }
  | .fault r => .fault r
  | .refused r => .refused r

/-- The host after an access: past the statement, with the name bound that a read gives (R62), or at a bus fault (R37). -/
def afterAccess (name : Option String) (h : HostSys) : Host.Outcome State Fault Refusal → HostEnd
  | .next t =>
    match t.resp, name with
    | some (.readOk v), some n => .runs { h with pc := h.pc + 1, vars := (n, v) :: h.vars, core := t }
    | some (.readError _), _ => .busErrorAt h.pc
    | some .writeError, _ => .busErrorAt h.pc
    | _, _ => .runs { h with pc := h.pc + 1, core := t }
  | .fault r => .stopped r
  | .refused _ => .badStatement h.pc

/-- One turn of the host: its next statement (R62). A label and a branch make no access. -/
def hostTurn (h : HostSys) : HostEnd :=
  match h.prog[h.pc]? with
  | none => .halted
  | some (.wr off v) => afterAccess none h (issue (.write off 4 v) h.core)
  | some (.rd off name) => afterAccess (some name) h (issue (.read off 4) h.core)
  | some (.label _) => .runs { h with pc := h.pc + 1 }
  | some (.bne name mask value target) =>
    match lookupVar h.vars name with
    | none => .badStatement h.pc
    | some v =>
      if v &&& mask ≠ value then
        match h.prog.idxOf? (.label target) with
        | none => .badStatement h.pc
        | some k => .runs { h with pc := k }
      else .runs { h with pc := h.pc + 1 }

/-- One turn of the core between two turns of the host. -/
def coreTurn (h : HostSys) : HostSys := { h with core := coreStep h.core }

/-- The two agents take turns as a schedule says, `true` for the host and `false` for one step of the core (R15, R44, R111).
The spec leaves their order open (R111, R130): it is the schedule, an argument, and each order of a completion and the host's
next access is some schedule (log entry 19). -/
def runHost : List Bool → HostSys → HostEnd
  | [], h => .runs h
  | true :: more, h =>
    match hostTurn h with
    | .runs h' => runHost more h'
    | e => e
  | false :: more, h => runHost more (coreTurn h)

end Sys2Proof.Machine
end

