-- ==== Sys2Proof/Safety.lean ====
section
/-! DEFINITION. What counts as a safe run, and the invariant of the machine, in the terms the statements use. -/

namespace Sys2Proof.Machine

/-- The message block of visit n of a search with these parameters (R83, R84, R86). -/
def visitMessage (P : ParamFile) (n : Nat) : WordFile :=
  buildMessage P (coordOf P (visitXX (readParam P .blockSize) n) (visitYY (readParam P .blockSize) n))

/-- The compressed state file of visit n (R85, R87). -/
def visitFile (p : Params) (P : ParamFile) (n : Nat) : WordFile := compressFile p (visitMessage P n) (ivFile p)

/-- The check value c(n) of visit n (R88, R95). -/
def visitCheck (p : Params) (P : ParamFile) (n : Nat) : Word32 := checkValue p (visitFile p P n)

/-- The sequencer position after visit n (R92, R97). -/
def visitEnd (P : ParamFile) (n : Nat) : Position :=
  { yy := visitYY (readParam P .blockSize) n, xx := visitXX (readParam P .blockSize) n, phase := .test, r := 11, i := 7, k := 7 }

/-- How many coordinates the block has (R83). -/
def visitCount (P : ParamFile) : Nat := (readParam P .blockSize).toNat * (readParam P .blockSize).toNat

/-- An input that stays in the window: only an access outside it stops the machine (R35). -/
def Input.inWindow : Input → Bool
  | .access a => a.inWindow
  | .core _ => true
  | .reset => true

/-- A safe state: no input to come leaves the window. -/
def State.safe (s : State) : Bool := s.inputs.all Input.inWindow

/-- While an operation runs, DONE is 0 and ERR is OK: START cleared both, and only the completion sets them
(R99, R105, R113). -/
def State.quietWhileBusy (s : State) : Prop := s.busy = true → s.status.done = false ∧ s.status.err = 0

/-- Codes 3 to 15 are never produced (R104). -/
def State.errInRange (s : State) : Prop := s.status.err.toNat ≤ 2

/-- While a SEARCH runs, its scan indices stay inside the block (R31, R83), and FOUND is 0: START cleared it, and only the
completion of a success sets it (R22, R89, R99). -/
def State.searchInBlock (s : State) : Prop :=
  ∀ l, s.curOp = some l → l.op = .search →
    (readParam s.params .blockSize ≠ 0 →
      s.pos.xx < readParam s.params .blockSize ∧ s.pos.yy < readParam s.params .blockSize) ∧
    s.status.found = false

/-- The invariant that every step keeps. -/
def State.Inv (s : State) : Prop := s.quietWhileBusy ∧ s.errInRange ∧ s.searchInBlock

end Sys2Proof.Machine
end

