-- ==== Sys2Proof/Certificates/Slice0/Obligations.lean ====
section
/-! DEFINITION. The statements for the provers. Where a statement rests on a choice of the model, its docstring names the log
entry. A completed operation is stated for states with no input to come (log entry 2); an operation left running, for states
with one. An equation `exec i s = .next t` with t written as an update of s is also the frame: all that the update does not
name is unchanged. -/

open Sys2Proof Sys2Proof.Machine

/-! ### Encoding -/

/-- O1. Decoding an encoded well-formed instruction gives it back, as a word and as bytes (R51 to R53). -/
def Obligations.DecodeOfEncodeIsIdentity : Prop :=
  ∀ i : Instr, i.wf = true → decodeWord (encode i) = i ∧ decode (lanesOfWord (encode i)) = .ok (i, [])

/-- O2. Decoding drops exactly the bits that the spec ignores: 31:14 of a word without SRST, and all but bit 1 of a word
with it (R51, R52). -/
def Obligations.EncodeOfDecodeKeepsTheFields : Prop :=
  ∀ w : Word32, (decodeWord w).wf = true ∧
    encode (decodeWord w) = if w.getLsbD 1 then 0x00000002 else w &&& 0x00003FFF

/-- O3. The cases of R52 in order, and the operation-code map of R53; the mask and match of R52. -/
def Obligations.DecodeTakesTheFirstCase : Prop :=
  ∀ (w : Word32) (q c : Bool) (n : BitVec 6) (o : BitVec 4),
    w.getLsbD 2 = q → w.getLsbD 3 = c → w.extractLsb' 8 6 = n → w.extractLsb' 4 4 = o →
    (w.getLsbD 1 = true → decodeWord w = .srst) ∧
    (w.getLsbD 1 = false → w.getLsbD 0 = false → decodeWord w = .ctrlset q c o n) ∧
    (w.getLsbD 1 = false → w.getLsbD 0 = true →
      decodeWord w =
        if o = 0x0 then .nop q c n
        else if o = 0x1 then .loadiv q c n
        else if o = 0x2 then .mix q c n
        else if o = 0x3 then .compress q c n
        else if o = 0x4 then .search q c n
        else if o = 0x5 then .add64 q c n
        else if o = 0x6 then .rotr64 q c n
        else if o = 0x7 then .illegal7 q c n
        else .illegal8F o q c n) ∧
    (∀ o' : BitVec 4, w &&& 0x000000F3 = (o'.setWidth 32 <<< 4) ||| 0x1 ↔
      w.getLsbD 1 = false ∧ w.getLsbD 0 = true ∧ o = o')

/-- O4. Words written out from 95_test_vectors.md V-E1 to V-E9. -/
def Obligations.SampleCommandWordsDecode : Prop :=
  decodeWord 0x00000001 = .nop false false 0 ∧
  decodeWord 0x00000045 = .search true false 0 ∧
  decodeWord 0x00000059 = .add64 false true 0 ∧
  decodeWord 0x00003F61 = .rotr64 false false 63 ∧
  decodeWord 0xFFFFC061 = .rotr64 false false 0 ∧
  decodeWord 0x00000004 = .ctrlset true false 0 0 ∧
  decodeWord 0x00000071 = .illegal7 false false 0 ∧
  decodeWord 0x000000F0 = .ctrlset false false 0xF 0 ∧
  decodeWord 0x00000043 = .srst

/-- O5. The assembler's lines (R61): the words of its table, that of `ROTR64 n` whole and with its decoding, the suffix `.i`, and
the refusal of an amount over 63. -/
def Obligations.AssemblerLinesGiveTheirWords : Prop :=
  ∀ (irq : Bool) (n : Nat),
    assemble (.nop irq) = some (0x00000001 ||| if irq then 0x4 else 0x0) ∧
    assemble (.loadiv irq) = some (0x00000011 ||| if irq then 0x4 else 0x0) ∧
    assemble (.mix irq) = some (0x00000021 ||| if irq then 0x4 else 0x0) ∧
    assemble (.compress irq) = some (0x00000031 ||| if irq then 0x4 else 0x0) ∧
    assemble (.search irq) = some (0x00000041 ||| if irq then 0x4 else 0x0) ∧
    assemble (.add64 false irq) = some (0x00000051 ||| if irq then 0x4 else 0x0) ∧
    assemble (.add64 true irq) = some (0x00000059 ||| if irq then 0x4 else 0x0) ∧
    (n ≤ 63 →
      assemble (.rotr64 n irq) = some ((0x00000061 ||| (BitVec.ofNat 32 n <<< 8)) ||| if irq then 0x4 else 0x0) ∧
      decodeWord ((0x00000061 ||| (BitVec.ofNat 32 n <<< 8)) ||| if irq then 0x4 else 0x0) =
        .rotr64 irq false (BitVec.ofNat 6 n)) ∧
    (63 < n → assemble (.rotr64 n irq) = none)

/-- O6. The pseudo-instructions (R63): MIX writes its six indices to MIX_SEL and then starts the operation; LD64 writes the two
halves that join to its value to the LO and the HI register of its name, at R20's offsets; CLRDONE writes 0x102 to STATUS. -/
def Obligations.PseudoInstructionsExpand : Prop :=
  (∀ a b c d mx my : Nat, a < 16 → b < 16 → c < 16 → d < 16 → mx < 16 → my < 16 →
    ∃ w, mixStmts a b c d mx my = some [.wr 0x008 w, .wr 0x000 0x00000021] ∧
      mixSelOf w = ⟨BitVec.ofNat 4 a, BitVec.ofNat 4 b, BitVec.ofNat 4 c, BitVec.ofNat 4 d,
        BitVec.ofNat 4 mx, BitVec.ofNat 4 my⟩ ∧
      mixSelWord (mixSelOf w) = w) ∧
  (∀ (n : Wide) (v : Word64), ∃ lo hi : Word32,
    ld64Stmts n v = [.wr n.offset lo, .wr (n.offset + 4) hi] ∧ hi ++ lo = v) ∧
  (Wide.aluA.offset = 0x064 ∧ Reg.ofOffset 0x064 = .aluA .lo ∧ Reg.ofOffset 0x068 = .aluA .hi) ∧
  (Wide.aluB.offset = 0x06C ∧ Reg.ofOffset 0x06C = .aluB .lo ∧ Reg.ofOffset 0x070 = .aluB .hi) ∧
  (∀ i : Fin 16, (Wide.state i).offset = 0x100 + 8 * i.val ∧
    Reg.ofOffset (0x100 + 8 * i.val) = .state i .lo ∧ Reg.ofOffset (0x104 + 8 * i.val) = .state i .hi) ∧
  (∀ i : Fin 16, (Wide.msg i).offset = 0x180 + 8 * i.val ∧
    Reg.ofOffset (0x180 + 8 * i.val) = .msg i .lo ∧ Reg.ofOffset (0x184 + 8 * i.val) = .msg i .hi) ∧
  clrDoneStmts = [.wr 0x004 0x00000102]

/-- O7. Format L (R60): every entry of the machine's permutation schedule is even and at most 30 and selects the word of half
its value, and a candidate configuration is accepted exactly when all of its entries are even. -/
def Obligations.PermutationEntriesAreEven : Prop :=
  (∀ (r : Fin 12) (j : Fin 16),
    (Config.params.sigmaLut r j).toNat % 2 = 0 ∧ (Config.params.sigmaLut r j).toNat ≤ 30 ∧
    (sigmaSelect (Config.params.sigmaLut r j)).val = (Config.params.sigmaLut r j).toNat / 2) ∧
  (∀ p : Params, (∃ q, p.accept = .ok q) ↔ ∀ (r : Fin 12) (j : Fin 16), (p.sigmaLut r j).toNat % 2 = 0)

/-! ### The register window -/

/-- O8. A host write to CTRL is decoded to a well-formed instruction, and the step is exec of it, with the input taken and the
write answered (R50; the inputs and the answer are the model's, log entries 1 and 9). -/
def Obligations.StepExecutesTheCommandWord : Prop :=
  ∀ (s : State) (w : Word32) (rest : List Input), s.inputs = .access (.write 0x000 4 w) :: rest →
    (decodeWord w).wf = true ∧ step s = exec (decodeWord w) { s with inputs := rest, resp := some .writeOk }

/-- O9. The register map (R20, R36): every register stands at its offset and nowhere else, each named register's offset is that
of R20's table, and the reserved offsets are 0x080 to 0x0FC. -/
def Obligations.RegisterMapIsTheTable : Prop :=
  (∀ (r : Reg) (o : Nat), r.offset = some o → o < 0x200 ∧ o % 4 = 0 ∧ Reg.ofOffset o = r) ∧
  (∀ off : Nat, off < 0x200 → off % 4 = 0 → Reg.ofOffset off ≠ .reserved → (Reg.ofOffset off).offset = some off) ∧
  (∀ off : Nat, off < 0x200 → off % 4 = 0 → (Reg.ofOffset off = .reserved ↔ 0x080 ≤ off ∧ off ≤ 0x0FC)) ∧
  [0x000, 0x004, 0x008, 0x00C, 0x010].map Reg.ofOffset = [.ctrl, .status, .mixSel, .result, .check] ∧
  [0x014, 0x018, 0x01C, 0x020].map Reg.ofOffset =
    [.param .offsetX, .param .offsetY, .param .blockSize, .param .difficulty] ∧
  [0x024, 0x028, 0x02C, 0x030].map Reg.ofOffset = [.param .work0R, .param .work0G, .param .work0B, .param .work0A] ∧
  [0x034, 0x038, 0x03C, 0x040].map Reg.ofOffset = [.param .work1R, .param .work1G, .param .work1B, .param .work1A] ∧
  [0x044, 0x048, 0x04C, 0x050].map Reg.ofOffset = [.param .hash0C0, .param .hash0C1, .param .hash0C2, .param .hash0C3] ∧
  [0x054, 0x058, 0x05C, 0x060].map Reg.ofOffset = [.param .hash1C0, .param .hash1C1, .param .hash1C2, .param .hash1C3] ∧
  [0x064, 0x068, 0x06C, 0x070, 0x074, 0x078, 0x07C].map Reg.ofOffset =
    [.aluA .lo, .aluA .hi, .aluB .lo, .aluB .hi, .aluR .lo, .aluR .hi, .id] ∧
  (∀ i : Fin 16, Reg.ofOffset (0x100 + 8 * i.val) = .state i .lo ∧ Reg.ofOffset (0x104 + 8 * i.val) = .state i .hi ∧
    Reg.ofOffset (0x180 + 8 * i.val) = .msg i .lo ∧ Reg.ofOffset (0x184 + 8 * i.val) = .msg i .hi)

/-- O10. What the window's words are: the fields of CTRL, STATUS and MIX_SEL stand where R21 to R23 say, strobes and reserved
bits read 0, and ID is 0x4E50_4F57 (R29); RESULT, CHECK and each parameter register read as themselves (R20, R24 to R26); a LO
register is bits 31:0 and a HI register bits 63:32 of its 64-bit quantity (R17, R18, R26, R38). -/
def Obligations.WindowWordsAreTheState : Prop :=
  ∀ s : State,
    ((readReg s .ctrl).extractLsb' 0 2 = 0 ∧ (readReg s .ctrl).getLsbD 2 = s.ctrl.irqEn ∧
      (readReg s .ctrl).getLsbD 3 = s.ctrl.cin ∧ (readReg s .ctrl).extractLsb' 4 4 = s.ctrl.op ∧
      (readReg s .ctrl).extractLsb' 8 6 = s.ctrl.rot ∧ (readReg s .ctrl).extractLsb' 14 18 = 0) ∧
    ((readReg s .status).getLsbD 0 = s.curOp.isSome ∧ (readReg s .status).getLsbD 1 = s.status.done ∧
      (readReg s .status).getLsbD 2 = s.status.found ∧ (readReg s .status).getLsbD 3 = s.status.cout ∧
      (readReg s .status).extractLsb' 4 4 = s.status.err ∧ (readReg s .status).getLsbD 8 = s.status.wrIgn ∧
      (readReg s .status).extractLsb' 9 23 = 0) ∧
    ((readReg s .mixSel).extractLsb' 0 4 = s.mixSel.a ∧ (readReg s .mixSel).extractLsb' 4 4 = s.mixSel.b ∧
      (readReg s .mixSel).extractLsb' 8 4 = s.mixSel.c ∧ (readReg s .mixSel).extractLsb' 12 4 = s.mixSel.d ∧
      (readReg s .mixSel).extractLsb' 16 4 = s.mixSel.mx ∧ (readReg s .mixSel).extractLsb' 20 4 = s.mixSel.my ∧
      (readReg s .mixSel).extractLsb' 24 8 = 0) ∧
    readReg s .id = 0x4E504F57 ∧ readReg s .reserved = 0 ∧
    readReg s .result = s.result ∧ readReg s .check = s.check ∧
    (∀ p : Param, readReg s (.param p) = readParam s.params p) ∧
    (readReg s (.aluA .lo) = s.aluA.extractLsb' 0 32 ∧ readReg s (.aluA .hi) = s.aluA.extractLsb' 32 32) ∧
    (readReg s (.aluB .lo) = s.aluB.extractLsb' 0 32 ∧ readReg s (.aluB .hi) = s.aluB.extractLsb' 32 32) ∧
    (readReg s (.aluR .lo) = s.aluR.extractLsb' 0 32 ∧ readReg s (.aluR .hi) = s.aluR.extractLsb' 32 32) ∧
    (∀ i : Fin 16,
      readReg s (.state i .lo) = s.S[i].extractLsb' 0 32 ∧ readReg s (.state i .hi) = s.S[i].extractLsb' 32 32 ∧
      readReg s (.msg i .lo) = s.M[i].extractLsb' 0 32 ∧ readReg s (.msg i .hi) = s.M[i].extractLsb' 32 32)

/-- O11. A read answers the register's value and changes nothing else, when the core is idle, and while it is busy for every
register but RESULT, CHECK, ALU_R and the two files (R39, R41; the answer is the model's field `resp`, log entry 9). -/
def Obligations.ReadsAnswerTheRegister : Prop :=
  ∀ (s : State) (off : Nat) (rest : List Input), s.inputs = .access (.read off 4) :: rest → off < 0x200 → off % 4 = 0 →
    (s.busy = false ∨
      off ≤ 0x008 ∨ (0x014 ≤ off ∧ off ≤ 0x070) ∨ (0x07C ≤ off ∧ off ≤ 0x0FC)) →
    step s = .next { s with inputs := rest, resp := some (.readOk (readReg s (Reg.ofOffset off))) }

/-- O12. While an operation runs, a read of RESULT, CHECK, ALU_R or a word of the files answers a fresh draw, on which
nothing is known, and changes nothing of the core (R41; `resp` and `draws` are the model's, log entries 7 and 9). -/
def Obligations.BusyReadsAreDraws : Prop :=
  ∀ (s : State) (off : Nat) (rest : List Input), s.inputs = .access (.read off 4) :: rest → off < 0x200 → off % 4 = 0 →
    s.busy = true → (off = 0x00C ∨ off = 0x010 ∨ off = 0x074 ∨ off = 0x078 ∨ 0x100 ≤ off) →
    step s = .next { s with inputs := rest, resp := some (.readOk (Config.draw s.draws)), draws := s.draws + 1 }

/-- O13. Idle, a write to an RW register other than CTRL and STATUS is read back, with MIX_SEL's reserved bits 0, and every
other word of the window, the latch and the position stay (R40; the window's words are all the registers and both
files; the inputs and the answer are the model's, log entries 1 and 9). -/
def Obligations.IdleWriteIsReadBack : Prop :=
  ∀ (s : State) (off : Nat) (v : Word32) (rest : List Input), s.inputs = .access (.write off 4 v) :: rest →
    off < 0x200 → off % 4 = 0 → (off = 0x008 ∨ (0x014 ≤ off ∧ off ≤ 0x070) ∨ 0x100 ≤ off) → s.busy = false →
    ∃ t : State, step s = .next t ∧
      readReg t (Reg.ofOffset off) = (if off = 0x008 then v &&& 0x00FFFFFF else v) ∧
      (∀ off' : Nat, off' < 0x200 → off' % 4 = 0 → off' ≠ off →
        readReg t (Reg.ofOffset off') = readReg s (Reg.ofOffset off')) ∧
      t.curOp = s.curOp ∧ t.pos = s.pos ∧ t.inputs = rest ∧ t.resp = some .writeOk ∧ t.draws = s.draws

/-- O14. A write to RESULT, CHECK, ALU_R, ID or a reserved offset does nothing, busy or not; it does not set WR_IGN
(R29, R40, R42; the inputs and the answer are the model's, log entries 1 and 9). -/
def Obligations.ReadOnlyWritesAreIgnored : Prop :=
  ∀ (s : State) (off : Nat) (v : Word32) (rest : List Input), s.inputs = .access (.write off 4 v) :: rest →
    off % 4 = 0 → (off = 0x00C ∨ off = 0x010 ∨ (0x074 ≤ off ∧ off ≤ 0x0FC)) →
    step s = .next { s with inputs := rest, resp := some .writeOk }

/-- O15. Writes while BUSY (R42): STATUS is performed, SRST resets, any other CTRL write and any RW write is dropped and sets
WR_IGN, and RO registers and reserved offsets are ignored. The latch, the position, S and M stay in all cases but SRST.
The inputs, the answer and the draws are the model's (log entries 1, 7, 9 and 16). -/
def Obligations.BusyWritesAreDropped : Prop :=
  ∀ (s : State) (off : Nat) (v : Word32) (rest : List Input), s.inputs = .access (.write off 4 v) :: rest →
    off < 0x200 → off % 4 = 0 → s.busy = true →
    step s = .next
      (if off = 0x004 then
        { s with
          inputs := rest
          resp := some .writeOk
          status := { s.status with done := s.status.done && !v.getLsbD 1, wrIgn := s.status.wrIgn && !v.getLsbD 8 } }
      else if off = 0x000 ∧ v.getLsbD 1 = true then
        { State.reset with inputs := rest, resp := some .writeOk, draws := s.draws }
      else if off = 0x000 ∨ off = 0x008 ∨ (0x014 ≤ off ∧ off ≤ 0x070) ∨ 0x100 ≤ off then
        { s with inputs := rest, resp := some .writeOk, status := { s.status with wrIgn := true } }
      else { s with inputs := rest, resp := some .writeOk })

/-- O16. The STATUS write (R102), busy or not: bit 1 clears DONE, bit 8 clears WR_IGN, nothing else changes, and irq is low
once DONE is clear (the inputs and the answer are the model's, log entries 1 and 9). -/
def Obligations.StatusWriteClearsByOnes : Prop :=
  ∀ (s : State) (v : Word32) (rest : List Input), s.inputs = .access (.write 0x004 4 v) :: rest →
    ∃ t : State, step s = .next t ∧
      t = { s with
            inputs := rest
            resp := some .writeOk
            status := { s.status with
              done := if v.getLsbD 1 then false else s.status.done
              wrIgn := if v.getLsbD 8 then false else s.status.wrIgn } } ∧
      (v.getLsbD 1 = true → t.irq = false)

/-- O17. An access of another size or alignment gets the ERROR response and changes no state of the core; the data of a read is
a draw (R37; log entries 7 and 9). -/
def Obligations.BusErrorChangesNoState : Prop :=
  ∀ (s : State) (off size : Nat) (v : Word32) (rest : List Input), off < 0x200 → (size ≠ 4 ∨ off % 4 ≠ 0) →
    (s.inputs = .access (.read off size) :: rest →
      step s = .next { s with inputs := rest, resp := some (.readError (Config.draw s.draws)), draws := s.draws + 1 }) ∧
    (s.inputs = .access (.write off size v) :: rest →
      step s = .next { s with inputs := rest, resp := some .writeError })

/-- O18. An access outside the 512-byte window is not delivered: the model stops by name (R35; log entry 8). -/
def Obligations.AccessOutsideTheWindowStops : Prop :=
  ∀ (s : State) (a : Access) (rest : List Input), s.inputs = .access a :: rest → 0x200 ≤ a.addr →
    step s = .fault (.outsideWindow a.addr)

/-- O19. The interrupt output is DONE and IRQ_EN, as the host reads them in STATUS and CTRL (R110). -/
def Obligations.InterruptIsALevel : Prop :=
  ∀ s : State, s.irq = ((readReg s .status).getLsbD 1 && (readReg s .ctrl).getLsbD 2)

/-- O20. An idle core with no input to come keeps its whole state (R119; no input is log entry 1). -/
def Obligations.IdleMachineWaits : Prop :=
  ∀ s : State, s.busy = false → s.inputs = [] → step s = .next s

/-- O21. The state after reset (R122): every word of the window reads 0 but ID, irq is low, no operation runs, and the
sequencer stands at yy = xx = 0, LOAD, r = i = 0 and k = 1, stored as 0 (log entry 5). -/
def Obligations.ResetStateIsZero : Prop :=
  (∀ r : Reg, readReg State.reset r = if r = .id then 0x4E504F57 else 0) ∧
  State.reset.irq = false ∧ State.reset.curOp = none ∧
  State.reset.pos = { yy := 0, xx := 0, phase := .load, r := 0, i := 0, k := 0 } ∧
  (∀ i : Fin 16, State.reset.S[i] = 0 ∧ State.reset.M[i] = 0)

/-- O22. A hardware reset does what SRST does: the state after reset, but for what is outside the core (R121; the inputs, the
answer and the draws stay, log entry 16). -/
def Obligations.HardwareResetIsTheSoftReset : Prop :=
  ∀ (s : State) (rest : List Input), s.inputs = .reset :: rest →
    step s = .next { State.reset with inputs := rest, resp := s.resp, draws := s.draws } ∧
    exec .srst { s with inputs := rest } = step s

/-! ### The commands -/

/-- O23. While BUSY every command word but SRST is dropped and sets WR_IGN, and nothing else changes (R42, R99). -/
def Obligations.CommandsAreDroppedWhileBusy : Prop :=
  ∀ (i : Instr) (s : State), i ≠ .srst → s.busy = true →
    exec i s = .next { s with status := { s.status with wrIgn := true } }

/-- O24. SRST from any state, busy or not: every register, both files, the latch and the position at their reset values
(R100, R121, R122); the inputs, the answer and the draws stay (log entry 16). -/
def Obligations.SoftResetFromAnyState : Prop :=
  ∀ s : State, exec .srst s = .next
    { ctrl := ⟨false, false, 0, 0⟩
      status := { done := false, found := false, cout := false, err := 0, wrIgn := false }
      mixSel := ⟨0, 0, 0, 0, 0, 0⟩
      result := 0
      check := 0
      params := Vector.replicate 20 0
      aluA := 0
      aluB := 0
      aluR := 0
      S := Vector.replicate 16 0
      M := Vector.replicate 16 0
      curOp := none
      pos := { yy := 0, xx := 0, phase := .load, r := 0, i := 0, k := 0 }
      inputs := s.inputs
      resp := s.resp
      draws := s.draws }

/-- O25. An idle CTRL write without a strobe writes IRQ_EN, CIN, OP and ROT, any OP among them, and nothing else
(R98, R103). -/
def Obligations.CtrlWriteSetsTheFields : Prop :=
  ∀ (irqEn cin : Bool) (op : BitVec 4) (rot : BitVec 6) (s : State), s.busy = false →
    exec (.ctrlset irqEn cin op rot) s = .next { s with ctrl := ⟨irqEn, cin, op, rot⟩ }

/-- O26. NOP completes with OK and changes only CTRL's fields, DONE and ERR (R98, R99, R101, R105; with no input to come the
operation is one step, log entry 2). -/
def Obligations.NopCompletes : Prop :=
  ∀ (irqEn cin : Bool) (rot : BitVec 6) (s : State), s.busy = false → s.inputs = [] →
    exec (.nop irqEn cin rot) s = .next
      { s with ctrl := ⟨irqEn, cin, 0x0, rot⟩, status := { s.status with done := true, err := 0 } }

/-- O27. LOADIV loads S from IV_TABLE and completes with OK; M and the rest stay (R79; log entry 2). -/
def Obligations.LoadivCompletes : Prop :=
  ∀ (irqEn cin : Bool) (rot : BitVec 6) (s : State), s.busy = false → s.inputs = [] →
    exec (.loadiv irqEn cin rot) s = .next
      { s with
        ctrl := ⟨irqEn, cin, 0x1, rot⟩
        status := { s.status with done := true, err := 0 }
        S := Vector.ofFn Config.ivTable }

/-- O28. MIX runs one mixing primitive on the words that MIX_SEL names, for every MIX_SEL value, and completes with OK; M and
the rest stay (R80; `mix` is O43's; log entry 2). -/
def Obligations.MixCompletes : Prop :=
  ∀ (irqEn cin : Bool) (rot : BitVec 6) (s : State), s.busy = false → s.inputs = [] →
    exec (.mix irqEn cin rot) s = .next
      { s with
        ctrl := ⟨irqEn, cin, 0x2, rot⟩
        status := { s.status with done := true, err := 0 }
        S := mix (fileIndex s.mixSel.a) (fileIndex s.mixSel.b) (fileIndex s.mixSel.c) (fileIndex s.mixSel.d)
          s.M[s.mixSel.mx.toNat] s.M[s.mixSel.my.toNat] s.S }

/-- O29. COMPRESS runs the compression function on S and M and completes with OK; M and the rest stay, and the sequencer is
left after (11, 7, 8) (R78, R81; `compressFile` is O44's; log entries 2 and 6). -/
def Obligations.CompressCompletes : Prop :=
  ∀ (irqEn cin : Bool) (rot : BitVec 6) (s : State), s.busy = false → s.inputs = [] →
    exec (.compress irqEn cin rot) s = .next
      { s with
        ctrl := ⟨irqEn, cin, 0x3, rot⟩
        status := { s.status with done := true, err := 0 }
        S := compressFile Config.params s.M s.S
        pos := { s.pos with r := 11, i := 7, k := 7 } }

/-- O30. SEARCH with BLOCK_SIZE 0 ends with INVALID_ARG: FOUND is 0, and S, M, RESULT, CHECK and the rest stay (R82, R107; log
entries 2 and 6). -/
def Obligations.SearchRefusesBlockSizeZero : Prop :=
  ∀ (irqEn cin : Bool) (rot : BitVec 6) (s : State), s.busy = false → s.inputs = [] →
    readParam s.params .blockSize = 0 →
    exec (.search irqEn cin rot) s = .next
      { s with
        ctrl := ⟨irqEn, cin, 0x4, rot⟩
        status := { s.status with done := true, err := 1, found := false }
        pos := Position.start }

/-- O31. SEARCH with a nonzero BLOCK_SIZE. Visit n loads S from IV_TABLE (R85), builds the message of its coordinate (R84, R86),
compresses (R87), and its check is CHECK_CONST ^ S[0][31:0] ^ S[8][31:0] (R88). The search ends at the first visit, in scan
order, whose check exceeds DIFFICULTY, with that coordinate encoded in RESULT and FOUND 1 (R89); or, when none does, with RESULT
0 and FOUND 0 (R90). CHECK, S and M are those of the last visit (R92). The rest stays (R91; log entries 2 and 6). The last clause
says that `visitCheck`, which O34 speaks of, is this check. -/
def Obligations.SearchScansTheBlock : Prop :=
  ∀ (irqEn cin : Bool) (rot : BitVec 6) (s : State), s.busy = false → s.inputs = [] →
    readParam s.params .blockSize ≠ 0 →
    let bs := readParam s.params .blockSize
    let d := readParam s.params .difficulty
    let count := bs.toNat * bs.toNat
    let coord := fun n => coordOf s.params (visitXX bs n) (visitYY bs n)
    let M := fun n => buildMessage s.params (coord n)
    let S := fun n => compressFile Config.params (M n) (Vector.ofFn Config.ivTable)
    let c := fun n => Config.checkConst ^^^ (S n)[0].extractLsb' 0 32 ^^^ (S n)[8].extractLsb' 0 32
    ((∃ n, n < count ∧ d < c n ∧ (∀ m, m < n → ¬ d < c m) ∧
      exec (.search irqEn cin rot) s = .next
        { s with
          ctrl := ⟨irqEn, cin, 0x4, rot⟩
          status := { s.status with done := true, err := 0, found := true }
          result := encodeP (coord n)
          check := c n
          S := S n
          M := M n
          pos := { yy := visitYY bs n, xx := visitXX bs n, phase := .test, r := 11, i := 7, k := 7 } }) ∨
    ((∀ m, m < count → ¬ d < c m) ∧ visitXX bs (count - 1) = bs - 1 ∧ visitYY bs (count - 1) = bs - 1 ∧
      exec (.search irqEn cin rot) s = .next
        { s with
          ctrl := ⟨irqEn, cin, 0x4, rot⟩
          status := { s.status with done := true, err := 0, found := false }
          result := 0
          check := c (count - 1)
          S := S (count - 1)
          M := M (count - 1)
          pos := { yy := bs - 1, xx := bs - 1, phase := .test, r := 11, i := 7, k := 7 } })) ∧
    ∀ n, visitCheck Config.params s.params n = c n

/-- O32. With DIFFICULTY 0xFFFF_FFFF no search succeeds: RESULT 0, FOUND 0, ERR OK, whatever the tables and parameters
(R88, R91, C3; log entry 2). -/
def Obligations.MaximalDifficultyNeverSucceeds : Prop :=
  ∀ (irqEn cin : Bool) (rot : BitVec 6) (s : State), s.busy = false → s.inputs = [] →
    readParam s.params .blockSize ≠ 0 → readParam s.params .difficulty = 0xFFFFFFFF →
    ∃ t : State, exec (.search irqEn cin rot) s = .next t ∧
      t.result = 0 ∧ t.status = { s.status with done := true, err := 0, found := false } ∧ t.params = s.params ∧
      t.busy = false

/-- O33. SEARCH is independent of everything but the parameter registers: two machines with equal parameters end with equal
RESULT, FOUND, CHECK, ERR, S and M (R94; log entry 2). -/
def Obligations.SearchDependsOnlyOnParameters : Prop :=
  ∀ (irqEn cin irqEn' cin' : Bool) (rot rot' : BitVec 6) (s u : State),
    s.busy = false → s.inputs = [] → u.busy = false → u.inputs = [] → s.params = u.params →
    readParam s.params .blockSize ≠ 0 →
    ∃ t v : State, exec (.search irqEn cin rot) s = .next t ∧ exec (.search irqEn' cin' rot') u = .next v ∧
      t.result = v.result ∧ t.status.found = v.status.found ∧ t.check = v.check ∧ t.status.err = v.status.err ∧
      t.S = v.S ∧ t.M = v.M

/-- O34. SEARCH succeeds exactly when some visit's check exceeds DIFFICULTY, and lowering DIFFICULTY turns no success into a
failure (R95; log entry 2). -/
def Obligations.DifficultyIsMonotone : Prop :=
  ∀ (irqEn cin : Bool) (rot : BitVec 6) (s : State) (lower : Word32), s.busy = false → s.inputs = [] →
    readParam s.params .blockSize ≠ 0 → lower ≤ readParam s.params .difficulty →
    ∃ t u : State, exec (.search irqEn cin rot) s = .next t ∧
      exec (.search irqEn cin rot) { s with params := writeParam s.params .difficulty lower } = .next u ∧
      (t.status.found = true ↔
        ∃ n, n < visitCount s.params ∧ readParam s.params .difficulty < visitCheck Config.params s.params n) ∧
      (t.status.found = true → u.status.found = true)

/-- O35. The visits are row-major, y outer: visit n is the coordinate with n = yy * bs + xx, inside the block (R83). -/
def Obligations.VisitsAreRowMajor : Prop :=
  ∀ (bs : Word32) (n : Nat), bs ≠ 0 → n < bs.toNat * bs.toNat →
    (visitYY bs n).toNat * bs.toNat + (visitXX bs n).toNat = n ∧ visitXX bs n < bs ∧ visitYY bs n < bs

/-- O36. ADD64 writes the exact sum modulo 2^64 to ALU_R and its carry to COUT, and completes with OK; FOUND, S, M and the rest
stay (R64, R70; log entry 2). -/
def Obligations.Add64Completes : Prop :=
  ∀ (irqEn cin : Bool) (rot : BitVec 6) (s : State), s.busy = false → s.inputs = [] →
    exec (.add64 irqEn cin rot) s = .next
      { s with
        ctrl := ⟨irqEn, cin, 0x5, rot⟩
        aluR := BitVec.ofNat 64 ((s.aluA.toNat + s.aluB.toNat + cin.toNat) % 2 ^ 64)
        status := { s.status with
          done := true
          err := 0
          cout := (s.aluA.toNat + s.aluB.toNat + cin.toNat) / 2 ^ 64 == 1 } }

/-- O37. ROTR64 writes ALU_A rotated right by ROT to ALU_R and completes with OK; COUT, FOUND and the rest stay (R67, R71; log
entry 2). -/
def Obligations.Rotr64Completes : Prop :=
  ∀ (irqEn cin : Bool) (rot : BitVec 6) (s : State), s.busy = false → s.inputs = [] →
    exec (.rotr64 irqEn cin rot) s = .next
      { s with
        ctrl := ⟨irqEn, cin, 0x6, rot⟩
        aluR := s.aluA.rotateRight rot.toNat
        status := { s.status with done := true, err := 0 } }

/-- O38. An idle START with a reserved code completes in the same step with ILLEGAL_OP; the fields are written, FOUND and COUT
and every other register stay (R54, R106, R108). -/
def Obligations.ReservedCodeIsIllegalOp : Prop :=
  ∀ (irqEn cin : Bool) (op : BitVec 4) (rot : BitVec 6) (s : State), s.busy = false →
    exec (.illegal7 irqEn cin rot) s = .next
      { s with ctrl := ⟨irqEn, cin, 0x7, rot⟩, status := { s.status with done := true, err := 2 } } ∧
    (op.getLsbD 3 = true → exec (.illegal8F op irqEn cin rot) s = .next
      { s with ctrl := ⟨irqEn, cin, op, rot⟩, status := { s.status with done := true, err := 2 } })

/-- O39. START accepted, as one step (R98, R99): the fields are written, the operation and its operands are latched, DONE and
ERR are cleared, FOUND by SEARCH only, and nothing else changes but the sequencer's start (R78, R97; log entry 6). With an
input to come the operation is left running (log entry 2). -/
def Obligations.StartIsAccepted : Prop :=
  ∀ (irqEn cin : Bool) (rot : BitVec 6) (s : State), s.busy = false → s.inputs ≠ [] →
    let started := fun (op : Op) (code : BitVec 4) =>
      { s with
        ctrl := ⟨irqEn, cin, code, rot⟩
        status := { s.status with done := false, err := 0 }
        curOp := some { op := op, cin := cin, rot := rot, mixSel := s.mixSel } }
    exec (.nop irqEn cin rot) s = .next (started .nop 0x0) ∧
    exec (.loadiv irqEn cin rot) s = .next (started .loadiv 0x1) ∧
    exec (.mix irqEn cin rot) s = .next (started .mix 0x2) ∧
    exec (.compress irqEn cin rot) s = .next { started .compress 0x3 with pos := { s.pos with r := 0, i := 0, k := 0 } } ∧
    exec (.search irqEn cin rot) s = .next
      { started .search 0x4 with
        status := { s.status with done := false, err := 0, found := false }
        pos := Position.start } ∧
    exec (.add64 irqEn cin rot) s = .next (started .add64 0x5) ∧
    exec (.rotr64 irqEn cin rot) s = .next (started .rotr64 0x6)

/-! ### The units -/

/-- O40. The adder unit (R64): sum and carry-out of the exact sum, which is at most 2^65 - 1. -/
def Obligations.AdderUnitIsExact : Prop :=
  ∀ (a b : Word64) (cin : Bool),
    (addSum a b cin).toNat = (a.toNat + b.toNat + cin.toNat) % 2 ^ 64 ∧
    (carryOut a b cin).toNat = (a.toNat + b.toNat + cin.toNat) / 2 ^ 64 ∧
    a.toNat + b.toNat + cin.toNat ≤ 2 ^ 65 - 1

/-- O41. The emulation by two 32-bit additions gives the adder's outputs (R66). -/
def Obligations.AdderFromHalves : Prop :=
  ∀ (a b : Word64) (cin : Bool),
    let lo : BitVec 33 := (low32 a).setWidth 33 + (low32 b).setWidth 33 + (BitVec.ofBool cin).setWidth 33
    let hi : BitVec 33 := (high32 a).setWidth 33 + (high32 b).setWidth 33 + (BitVec.ofBool (lo.getLsbD 32)).setWidth 33
    addSum a b cin = join64 (hi.setWidth 32) (lo.setWidth 32) ∧ carryOut a b cin = hi.getLsbD 32

/-- O42. The rotator unit (R67): its two shifts within 64 bits, bit j of the result is bit (j + n) mod 64 of the operand, and
a left rotation by m is a right rotation by (64 - m) mod 64. -/
def Obligations.RotatorUnitRotates : Prop :=
  ∀ (x : Word64) (n : BitVec 6),
    rotr64 x n = (if n.toNat = 0 then x else (x >>> n.toNat) ||| (x <<< (64 - n.toNat))) ∧
    (∀ j : Nat, j < 64 → (rotr64 x n).getLsbD j = x.getLsbD ((j + n.toNat) % 64)) ∧
    x.rotateLeft n.toNat = rotr64 x (BitVec.ofNat 6 ((64 - n.toNat) % 64))

/-- O43. The mixing primitive is the eight statements of R72 in order, each reading what the earlier ones wrote, for all
indices, equal ones too (R73). -/
def Obligations.MixIsEightStatements : Prop :=
  ∀ (a b c d : Fin 16) (mx my : Word64) (S : WordFile),
    let S1 := S.set a (S[a] + S[b])
    let S1 := S1.set a (S1[a] + mx)
    let S2 := S1.set d (rotr64 (S1[d] ^^^ S1[a]) 32)
    let S3 := S2.set c (S2[c] + S2[d])
    let S4 := S3.set b (rotr64 (S3[b] ^^^ S3[c]) 24)
    let S5 := S4.set a (S4[a] + S4[b])
    let S5 := S5.set a (S5[a] + my)
    let S6 := S5.set d (rotr64 (S5[d] ^^^ S5[a]) 16)
    let S7 := S6.set c (S6[c] + S6[d])
    let S8 := S7.set b (rotr64 (S7[b] ^^^ S7[c]) 63)
    mix a b c d mx my S = S8

/-- O44. The compression is 96 mixes in order: mix n is mix n mod 8 of round n / 8, on the grouping of R74 and the message
words of R75, entries 2i and 2i + 1 of the round's segment (R74 to R76). -/
def Obligations.CompressIsNinetySixMixes : Prop :=
  ∀ (p : Params) (M S : WordFile),
    compressFile p M S =
      (List.finRange 96).foldl
        (fun T n =>
          let r : Fin 12 := ⟨n.val / 8, by omega⟩
          let i : Fin 8 := ⟨n.val % 8, by omega⟩
          let q := ([(0, 4, 8, 12), (1, 5, 9, 13), (2, 6, 10, 14), (3, 7, 11, 15),
            (0, 5, 10, 15), (1, 6, 11, 12), (2, 7, 8, 13), (3, 4, 9, 14)] : List (Fin 16 × Fin 16 × Fin 16 × Fin 16))[i.val]!
          mix q.1 q.2.1 q.2.2.1 q.2.2.2
            M[(p.sigmaLut r ⟨2 * (n.val % 8), by omega⟩).toNat / 2]
            M[(p.sigmaLut r ⟨2 * (n.val % 8) + 1, by omega⟩).toNat / 2] T)
        S

/-- O45. The mixes 0 to 3 of one round may be done in any order, and so may the mixes 4 to 7 (R77): any two of a group
commute. -/
def Obligations.HalfRoundMixesCommute : Prop :=
  ∀ (p : Params) (M S : WordFile) (r : Fin 12) (i j : Fin 8), (i.val < 4 ↔ j.val < 4) →
    roundMix p M r i (roundMix p M r j S) = roundMix p M r j (roundMix p M r i S)

/-- O46. The message block (R57, R58, R86): P1 over P0 with nothing masked, the eight hash components two a word, the earlier
one low, and eleven zero words. -/
def Obligations.MessageBlockLayout : Prop :=
  ∀ (P : ParamFile) (c : Coord),
    let M := buildMessage P c
    let p0 : Word32 := c.xPos ||| (c.yPos <<< 8) ||| ((readParam P .work0B ^^^ c.xIndex) <<< 16) |||
      ((readParam P .work0A ^^^ c.yIndex) <<< 24)
    let p1 : Word32 := readParam P .work1R ||| (readParam P .work1G <<< 8) ||| (readParam P .work1B <<< 16) |||
      (readParam P .work1A <<< 24)
    M[0] = p1 ++ p0 ∧
    M[1] = readParam P .hash0C1 ++ readParam P .hash0C0 ∧ M[2] = readParam P .hash0C3 ++ readParam P .hash0C2 ∧
    M[3] = readParam P .hash1C1 ++ readParam P .hash1C0 ∧ M[4] = readParam P .hash1C3 ++ readParam P .hash1C2 ∧
    ∀ i : Fin 16, 5 ≤ i.val → M[i] = 0

/-- O47. The lanes of RESULT (R59): xIndex + 1, yIndex + 1, xPos, yPos, each its low 8 bits, the first in bits 7:0. -/
def Obligations.ResultLanes : Prop :=
  ∀ c : Coord,
    (encodeP c).extractLsb' 0 8 = (c.xIndex + 1).extractLsb' 0 8 ∧
    (encodeP c).extractLsb' 8 8 = (c.yIndex + 1).extractLsb' 0 8 ∧
    (encodeP c).extractLsb' 16 8 = c.xPos.extractLsb' 0 8 ∧
    (encodeP c).extractLsb' 24 8 = c.yPos.extractLsb' 0 8

/-- O48. A success encodes as 0 exactly when all four lanes are multiples of 256, as with BLOCK_SIZE 256 and OFFSET
(0xFF00, 0xFF00) (R93, C2). -/
def Obligations.SuccessCanEncodeAsZero : Prop :=
  (∀ c : Coord, encodeP c = 0 ↔
    (c.xIndex + 1).toNat % 256 = 0 ∧ (c.yIndex + 1).toNat % 256 = 0 ∧ c.xPos.toNat % 256 = 0 ∧ c.yPos.toNat % 256 = 0) ∧
  ∀ P : ParamFile, readParam P .blockSize = 256 → readParam P .offsetX = 0xFF00 → readParam P .offsetY = 0xFF00 →
    encodeP (coordOf P 0 0) = 0

/-- O49. Position and index are the remainder and quotient of the wrapped coordinate by BLOCK_SIZE (R84). The wrap is the spec's own
decision (D9): "The 32-bit width and the wrap of `ux` and `uy` are this spec's decision." -/
def Obligations.CoordinateIsQuotientAndRemainder : Prop :=
  ∀ (P : ParamFile) (xx yy : Word32), readParam P .blockSize ≠ 0 →
    let c := coordOf P xx yy
    let bs := (readParam P .blockSize).toNat
    c.xIndex.toNat * bs + c.xPos.toNat = ((readParam P .offsetX).toNat + xx.toNat) % 2 ^ 32 ∧ c.xPos.toNat < bs ∧
    c.yIndex.toNat * bs + c.yPos.toNat = ((readParam P .offsetY).toNat + yy.toNat) % 2 ^ 32 ∧ c.yPos.toNat < bs

/-! ### The core's own steps -/

/-- O50. The sequencer's order in a compression (R78): it starts at (0, 0, 1), each step is the next of the 768 statements in
the order of (r, i, k), and it ends after (11, 7, 8). `k` is stored less one (log entry 5). -/
def Obligations.SequencerOrder : Prop :=
  let place := fun (p : Position) => 64 * p.r.val + 8 * p.i.val + p.k.val
  ∀ p : Position,
    place (startPosition .compress p) = 0 ∧ (p.atLast = true ↔ place p = 767) ∧
    (p.atLast = false → place p.nextStatement = place p + 1 ∧
      p.nextStatement.xx = p.xx ∧ p.nextStatement.yy = p.yy ∧ p.nextStatement.phase = p.phase)

/-- O51. NOP, LOADIV, MIX, ADD64 and ROTR64 left running reach, in one step of the core, the state that the whole operation
gives (R45, R105, R120; log entries 2, 3 and 4). -/
def Obligations.ShortOperationsFinishInOneStep : Prop :=
  ∀ (irqEn cin : Bool) (rot : BitVec 6) (s : State) (x : Input) (rest : List Input), s.busy = false →
    ∀ i ∈ [Instr.nop irqEn cin rot, .loadiv irqEn cin rot, .mix irqEn cin rot, .add64 irqEn cin rot, .rotr64 irqEn cin rot],
      ∃ u t : State, exec i { s with inputs := x :: rest } = .next u ∧ u.busy = true ∧
        exec i { s with inputs := [] } = .next t ∧ coreRun 1 u = { t with inputs := x :: rest }

/-- O52. COMPRESS left running reaches, with its 768th statement and not before, the state that the whole operation gives: the
sequencer refines the compression function (R76, R78, R81; log entries 2, 3 and 4). -/
def Obligations.CompressStepsReachTheWhole : Prop :=
  ∀ (irqEn cin : Bool) (rot : BitVec 6) (s : State) (x : Input) (rest : List Input), s.busy = false →
    ∃ u t : State, exec (.compress irqEn cin rot) { s with inputs := x :: rest } = .next u ∧
      (∀ n, n < 768 → (coreRun n u).busy = true) ∧
      exec (.compress irqEn cin rot) { s with inputs := [] } = .next t ∧ coreRun 768 u = { t with inputs := x :: rest }

/-- O53. SEARCH left running reaches, in at most 771 steps a coordinate (one step when it is refused), the state that the whole
operation gives: phase by phase and coordinate by coordinate the sequencer refines the scan, and every search ends (R91, R96, R97, R120;
log entries 2, 3 and 4). -/
def Obligations.SearchStepsReachTheWhole : Prop :=
  ∀ (irqEn cin : Bool) (rot : BitVec 6) (s : State) (x : Input) (rest : List Input), s.busy = false →
    ∃ u t : State, exec (.search irqEn cin rot) { s with inputs := x :: rest } = .next u ∧
      exec (.search irqEn cin rot) { s with inputs := [] } = .next t ∧
      ∃ n, n ≤ 771 * visitCount s.params + 1 ∧ coreRun n u = { t with inputs := x :: rest }

/-- O54. The core's effects appear at completion (R45, R105): a step that leaves the operation running changes neither the latch
nor any register whose read is no draw while BUSY, STATUS with FOUND and COUT among them; the step in which BUSY falls sets
DONE, and ERR to INVALID_ARG for a refused SEARCH and to OK otherwise (R104, R107). That the last state writes and the completion
are one step is log entry 4. -/
def Obligations.EffectsAppearAtCompletion : Prop :=
  ∀ (s : State) (l : Latch), s.curOp = some l →
    let t := coreStep s
    (t.busy = true → t.curOp = s.curOp ∧ t.status = s.status ∧
      ∀ r : Reg, r.drawnWhileBusy = false → readReg t r = readReg s r) ∧
    (t.busy = false → t.status.done = true ∧
      t.status.err = if l.op = .search ∧ readParam s.params .blockSize = 0 then 1 else 0)

/-- O55. What no step of the core writes (R20, R22 to R26, R42), and what only one operation's steps write: RESULT, CHECK, FOUND
and M only SEARCH's, COUT only ADD64's, ALU_R only ADD64's and ROTR64's, S none of NOP's, ADD64's and ROTR64's. -/
def Obligations.CoreStepFrame : Prop :=
  ∀ (s : State) (l : Latch), s.curOp = some l →
    let t := coreStep s
    (t.params = s.params ∧ t.mixSel = s.mixSel ∧ t.aluA = s.aluA ∧ t.aluB = s.aluB ∧ t.ctrl = s.ctrl ∧
      t.status.wrIgn = s.status.wrIgn ∧ t.inputs = s.inputs ∧ t.resp = s.resp ∧ t.draws = s.draws) ∧
    (l.op ≠ .search → t.result = s.result ∧ t.check = s.check ∧ t.status.found = s.status.found ∧ t.M = s.M) ∧
    (l.op ≠ .add64 → t.status.cout = s.status.cout) ∧
    (l.op ≠ .add64 → l.op ≠ .rotr64 → t.aluR = s.aluR) ∧
    (l.op = .nop ∨ l.op = .add64 ∨ l.op = .rotr64 → t.S = s.S) ∧
    (l.op ≠ .compress → l.op ≠ .search → t.pos = s.pos)

/-! ### The whole machine -/

/-- O56. What a command word can change (R18, R20, R22, R24 to R26): none but SRST writes a parameter register, MIX_SEL, ALU_A or
ALU_B; none but SEARCH and SRST writes RESULT, CHECK or M or changes FOUND; none but ADD64 and SRST changes COUT; and so on. -/
def Obligations.CommandFrame : Prop :=
  ∀ (i : Instr) (s t : State), exec i s = .next t → i ≠ .srst →
    (t.params = s.params ∧ t.mixSel = s.mixSel ∧ t.aluA = s.aluA ∧ t.aluB = s.aluB ∧
      t.inputs = s.inputs ∧ t.resp = s.resp ∧ t.draws = s.draws) ∧
    ((∀ q c n, i ≠ .search q c n) →
      t.result = s.result ∧ t.check = s.check ∧ t.status.found = s.status.found ∧ t.M = s.M) ∧
    ((∀ q c n, i ≠ .add64 q c n) → t.status.cout = s.status.cout) ∧
    ((∀ q c n, i ≠ .add64 q c n ∧ i ≠ .rotr64 q c n) → t.aluR = s.aluR) ∧
    ((∀ q c n, i ≠ .loadiv q c n ∧ i ≠ .mix q c n ∧ i ≠ .compress q c n ∧ i ≠ .search q c n) → t.S = s.S)

/-- O57. The state after reset meets the invariant of O58. -/
def Obligations.ResetMeetsTheInvariant : Prop := State.reset.Inv

/-- O58. Every step keeps the invariant: while an operation runs, DONE is 0 and ERR is OK (so no completion can occur while DONE
is 1, R113); ERR never holds a reserved code (R104); a running search stays inside its block (R31), with FOUND 0 until its last
write (R89, R99). -/
def Obligations.StepKeepsTheInvariant : Prop :=
  ∀ s t : State, s.Inv → step s = .next t → t.Inv

/-- O59. From a state whose inputs stay in the window every step answers a next state, and it is such a state again: no
instruction, no access and no data stops the machine (R109, R114; only R35's accesses do, log entry 8). -/
def Obligations.SafeStatesNeverStop : Prop :=
  ∀ s : State, s.safe = true → ∃ t : State, step s = .next t ∧ t.safe = true

/-- O60. The host's branch is taken exactly when the masked value differs (R62), and an ERROR response is a fault of the host
program (R37). A START that the host writes leaves the operation running, so that the schedule says whether its completion or the
host's next access comes first (R111). The host is a layer over the model (log entry 19). -/
def Obligations.HostBranchesFaultsAndStarts : Prop :=
  (∀ (h : HostSys) (name target : String) (mask value v : Word32) (k : Nat),
    h.prog[h.pc]? = some (.bne name mask value target) → lookupVar h.vars name = some v →
    h.prog.idxOf? (.label target) = some k →
    hostTurn h = .runs { h with pc := if v &&& mask ≠ value then k else h.pc + 1 }) ∧
  (∀ (h : HostSys) (off : Nat) (v : Word32) (name : String), off < 0x200 → off % 4 ≠ 0 →
    (h.prog[h.pc]? = some (.wr off v) → hostTurn h = .busErrorAt h.pc) ∧
    (h.prog[h.pc]? = some (.rd off name) → hostTurn h = .busErrorAt h.pc)) ∧
  (∀ (h : HostSys) (v : Word32), h.prog[h.pc]? = some (.wr 0x000 v) → h.core.busy = false →
    v.getLsbD 1 = false → v.getLsbD 0 = true → v.extractLsb' 4 4 < 7 →
    ∃ t : State, hostTurn h = .runs { h with pc := h.pc + 1, core := t } ∧
      t.busy = true ∧ t.status.done = false ∧ t.inputs = h.core.inputs)
end

