-- ==== Sys2Proof/Laws/State.lean ====
section
/-! SUPPORT. For each update of State, what each field reads as after it. True by unfolding the update once, so that no later
proof unfolds a record update. -/

namespace Sys2Proof.Machine

@[simp] theorem resetCore_ctrl (s : State) : (resetCore s).ctrl = State.reset.ctrl := rfl
@[simp] theorem resetCore_status (s : State) : (resetCore s).status = State.reset.status := rfl
@[simp] theorem resetCore_mixSel (s : State) : (resetCore s).mixSel = State.reset.mixSel := rfl
@[simp] theorem resetCore_result (s : State) : (resetCore s).result = State.reset.result := rfl
@[simp] theorem resetCore_check (s : State) : (resetCore s).check = State.reset.check := rfl
@[simp] theorem resetCore_params (s : State) : (resetCore s).params = State.reset.params := rfl
@[simp] theorem resetCore_aluA (s : State) : (resetCore s).aluA = State.reset.aluA := rfl
@[simp] theorem resetCore_aluB (s : State) : (resetCore s).aluB = State.reset.aluB := rfl
@[simp] theorem resetCore_aluR (s : State) : (resetCore s).aluR = State.reset.aluR := rfl
@[simp] theorem resetCore_S (s : State) : (resetCore s).S = State.reset.S := rfl
@[simp] theorem resetCore_M (s : State) : (resetCore s).M = State.reset.M := rfl
@[simp] theorem resetCore_curOp (s : State) : (resetCore s).curOp = State.reset.curOp := rfl
@[simp] theorem resetCore_pos (s : State) : (resetCore s).pos = State.reset.pos := rfl
@[simp] theorem resetCore_inputs (s : State) : (resetCore s).inputs = s.inputs := rfl
@[simp] theorem resetCore_resp (s : State) : (resetCore s).resp = s.resp := rfl
@[simp] theorem resetCore_draws (s : State) : (resetCore s).draws = s.draws := rfl

@[simp] theorem setCtrl_ctrl (q c : Bool) (o : BitVec 4) (n : BitVec 6) (s : State) : (setCtrl q c o n s).ctrl = ⟨q, c, o, n⟩ := rfl
@[simp] theorem setCtrl_status (q c : Bool) (o : BitVec 4) (n : BitVec 6) (s : State) : (setCtrl q c o n s).status = s.status := rfl
@[simp] theorem setCtrl_mixSel (q c : Bool) (o : BitVec 4) (n : BitVec 6) (s : State) : (setCtrl q c o n s).mixSel = s.mixSel := rfl
@[simp] theorem setCtrl_result (q c : Bool) (o : BitVec 4) (n : BitVec 6) (s : State) : (setCtrl q c o n s).result = s.result := rfl
@[simp] theorem setCtrl_check (q c : Bool) (o : BitVec 4) (n : BitVec 6) (s : State) : (setCtrl q c o n s).check = s.check := rfl
@[simp] theorem setCtrl_params (q c : Bool) (o : BitVec 4) (n : BitVec 6) (s : State) : (setCtrl q c o n s).params = s.params := rfl
@[simp] theorem setCtrl_aluA (q c : Bool) (o : BitVec 4) (n : BitVec 6) (s : State) : (setCtrl q c o n s).aluA = s.aluA := rfl
@[simp] theorem setCtrl_aluB (q c : Bool) (o : BitVec 4) (n : BitVec 6) (s : State) : (setCtrl q c o n s).aluB = s.aluB := rfl
@[simp] theorem setCtrl_aluR (q c : Bool) (o : BitVec 4) (n : BitVec 6) (s : State) : (setCtrl q c o n s).aluR = s.aluR := rfl
@[simp] theorem setCtrl_S (q c : Bool) (o : BitVec 4) (n : BitVec 6) (s : State) : (setCtrl q c o n s).S = s.S := rfl
@[simp] theorem setCtrl_M (q c : Bool) (o : BitVec 4) (n : BitVec 6) (s : State) : (setCtrl q c o n s).M = s.M := rfl
@[simp] theorem setCtrl_curOp (q c : Bool) (o : BitVec 4) (n : BitVec 6) (s : State) : (setCtrl q c o n s).curOp = s.curOp := rfl
@[simp] theorem setCtrl_pos (q c : Bool) (o : BitVec 4) (n : BitVec 6) (s : State) : (setCtrl q c o n s).pos = s.pos := rfl
@[simp] theorem setCtrl_inputs (q c : Bool) (o : BitVec 4) (n : BitVec 6) (s : State) : (setCtrl q c o n s).inputs = s.inputs := rfl
@[simp] theorem setCtrl_resp (q c : Bool) (o : BitVec 4) (n : BitVec 6) (s : State) : (setCtrl q c o n s).resp = s.resp := rfl
@[simp] theorem setCtrl_draws (q c : Bool) (o : BitVec 4) (n : BitVec 6) (s : State) : (setCtrl q c o n s).draws = s.draws := rfl

@[simp] theorem dropWrite_ctrl (s : State) : (dropWrite s).ctrl = s.ctrl := rfl
@[simp] theorem dropWrite_status (s : State) : (dropWrite s).status = { s.status with wrIgn := true } := rfl
@[simp] theorem dropWrite_mixSel (s : State) : (dropWrite s).mixSel = s.mixSel := rfl
@[simp] theorem dropWrite_result (s : State) : (dropWrite s).result = s.result := rfl
@[simp] theorem dropWrite_check (s : State) : (dropWrite s).check = s.check := rfl
@[simp] theorem dropWrite_params (s : State) : (dropWrite s).params = s.params := rfl
@[simp] theorem dropWrite_aluA (s : State) : (dropWrite s).aluA = s.aluA := rfl
@[simp] theorem dropWrite_aluB (s : State) : (dropWrite s).aluB = s.aluB := rfl
@[simp] theorem dropWrite_aluR (s : State) : (dropWrite s).aluR = s.aluR := rfl
@[simp] theorem dropWrite_S (s : State) : (dropWrite s).S = s.S := rfl
@[simp] theorem dropWrite_M (s : State) : (dropWrite s).M = s.M := rfl
@[simp] theorem dropWrite_curOp (s : State) : (dropWrite s).curOp = s.curOp := rfl
@[simp] theorem dropWrite_pos (s : State) : (dropWrite s).pos = s.pos := rfl
@[simp] theorem dropWrite_inputs (s : State) : (dropWrite s).inputs = s.inputs := rfl
@[simp] theorem dropWrite_resp (s : State) : (dropWrite s).resp = s.resp := rfl
@[simp] theorem dropWrite_draws (s : State) : (dropWrite s).draws = s.draws := rfl

@[simp] theorem acceptStart_ctrl (o : Op) (s : State) : (acceptStart o s).ctrl = s.ctrl := rfl
@[simp] theorem acceptStart_status (o : Op) (s : State) : (acceptStart o s).status = { s.status with done := false, err := 0, found := s.status.found && decide (o ≠ .search) } := rfl
@[simp] theorem acceptStart_mixSel (o : Op) (s : State) : (acceptStart o s).mixSel = s.mixSel := rfl
@[simp] theorem acceptStart_result (o : Op) (s : State) : (acceptStart o s).result = s.result := rfl
@[simp] theorem acceptStart_check (o : Op) (s : State) : (acceptStart o s).check = s.check := rfl
@[simp] theorem acceptStart_params (o : Op) (s : State) : (acceptStart o s).params = s.params := rfl
@[simp] theorem acceptStart_aluA (o : Op) (s : State) : (acceptStart o s).aluA = s.aluA := rfl
@[simp] theorem acceptStart_aluB (o : Op) (s : State) : (acceptStart o s).aluB = s.aluB := rfl
@[simp] theorem acceptStart_aluR (o : Op) (s : State) : (acceptStart o s).aluR = s.aluR := rfl
@[simp] theorem acceptStart_S (o : Op) (s : State) : (acceptStart o s).S = s.S := rfl
@[simp] theorem acceptStart_M (o : Op) (s : State) : (acceptStart o s).M = s.M := rfl
@[simp] theorem acceptStart_curOp (o : Op) (s : State) : (acceptStart o s).curOp = some (sample o s) := rfl
@[simp] theorem acceptStart_pos (o : Op) (s : State) : (acceptStart o s).pos = startPosition o s.pos := rfl
@[simp] theorem acceptStart_inputs (o : Op) (s : State) : (acceptStart o s).inputs = s.inputs := rfl
@[simp] theorem acceptStart_resp (o : Op) (s : State) : (acceptStart o s).resp = s.resp := rfl
@[simp] theorem acceptStart_draws (o : Op) (s : State) : (acceptStart o s).draws = s.draws := rfl

@[simp] theorem complete_ctrl (e : ErrCode) (s : State) : (complete e s).ctrl = s.ctrl := rfl
@[simp] theorem complete_status (e : ErrCode) (s : State) : (complete e s).status = { s.status with err := e.code, done := true } := rfl
@[simp] theorem complete_mixSel (e : ErrCode) (s : State) : (complete e s).mixSel = s.mixSel := rfl
@[simp] theorem complete_result (e : ErrCode) (s : State) : (complete e s).result = s.result := rfl
@[simp] theorem complete_check (e : ErrCode) (s : State) : (complete e s).check = s.check := rfl
@[simp] theorem complete_params (e : ErrCode) (s : State) : (complete e s).params = s.params := rfl
@[simp] theorem complete_aluA (e : ErrCode) (s : State) : (complete e s).aluA = s.aluA := rfl
@[simp] theorem complete_aluB (e : ErrCode) (s : State) : (complete e s).aluB = s.aluB := rfl
@[simp] theorem complete_aluR (e : ErrCode) (s : State) : (complete e s).aluR = s.aluR := rfl
@[simp] theorem complete_S (e : ErrCode) (s : State) : (complete e s).S = s.S := rfl
@[simp] theorem complete_M (e : ErrCode) (s : State) : (complete e s).M = s.M := rfl
@[simp] theorem complete_curOp (e : ErrCode) (s : State) : (complete e s).curOp = none := rfl
@[simp] theorem complete_pos (e : ErrCode) (s : State) : (complete e s).pos = s.pos := rfl
@[simp] theorem complete_inputs (e : ErrCode) (s : State) : (complete e s).inputs = s.inputs := rfl
@[simp] theorem complete_resp (e : ErrCode) (s : State) : (complete e s).resp = s.resp := rfl
@[simp] theorem complete_draws (e : ErrCode) (s : State) : (complete e s).draws = s.draws := rfl

@[simp] theorem acknowledge_ctrl (v : Word32) (s : State) : (acknowledge v s).ctrl = s.ctrl := rfl
@[simp] theorem acknowledge_status (v : Word32) (s : State) : (acknowledge v s).status = clearByOnes v s.status := rfl
@[simp] theorem acknowledge_mixSel (v : Word32) (s : State) : (acknowledge v s).mixSel = s.mixSel := rfl
@[simp] theorem acknowledge_result (v : Word32) (s : State) : (acknowledge v s).result = s.result := rfl
@[simp] theorem acknowledge_check (v : Word32) (s : State) : (acknowledge v s).check = s.check := rfl
@[simp] theorem acknowledge_params (v : Word32) (s : State) : (acknowledge v s).params = s.params := rfl
@[simp] theorem acknowledge_aluA (v : Word32) (s : State) : (acknowledge v s).aluA = s.aluA := rfl
@[simp] theorem acknowledge_aluB (v : Word32) (s : State) : (acknowledge v s).aluB = s.aluB := rfl
@[simp] theorem acknowledge_aluR (v : Word32) (s : State) : (acknowledge v s).aluR = s.aluR := rfl
@[simp] theorem acknowledge_S (v : Word32) (s : State) : (acknowledge v s).S = s.S := rfl
@[simp] theorem acknowledge_M (v : Word32) (s : State) : (acknowledge v s).M = s.M := rfl
@[simp] theorem acknowledge_curOp (v : Word32) (s : State) : (acknowledge v s).curOp = s.curOp := rfl
@[simp] theorem acknowledge_pos (v : Word32) (s : State) : (acknowledge v s).pos = s.pos := rfl
@[simp] theorem acknowledge_inputs (v : Word32) (s : State) : (acknowledge v s).inputs = s.inputs := rfl
@[simp] theorem acknowledge_resp (v : Word32) (s : State) : (acknowledge v s).resp = s.resp := rfl
@[simp] theorem acknowledge_draws (v : Word32) (s : State) : (acknowledge v s).draws = s.draws := rfl

@[simp] theorem reportFound_ctrl (x y : Word32) (s : State) : (reportFound x y s).ctrl = s.ctrl := rfl
@[simp] theorem reportFound_status (x y : Word32) (s : State) : (reportFound x y s).status = { s.status with found := true } := rfl
@[simp] theorem reportFound_mixSel (x y : Word32) (s : State) : (reportFound x y s).mixSel = s.mixSel := rfl
@[simp] theorem reportFound_result (x y : Word32) (s : State) : (reportFound x y s).result = encodeP (coordOf s.params x y) := rfl
@[simp] theorem reportFound_check (x y : Word32) (s : State) : (reportFound x y s).check = s.check := rfl
@[simp] theorem reportFound_params (x y : Word32) (s : State) : (reportFound x y s).params = s.params := rfl
@[simp] theorem reportFound_aluA (x y : Word32) (s : State) : (reportFound x y s).aluA = s.aluA := rfl
@[simp] theorem reportFound_aluB (x y : Word32) (s : State) : (reportFound x y s).aluB = s.aluB := rfl
@[simp] theorem reportFound_aluR (x y : Word32) (s : State) : (reportFound x y s).aluR = s.aluR := rfl
@[simp] theorem reportFound_S (x y : Word32) (s : State) : (reportFound x y s).S = s.S := rfl
@[simp] theorem reportFound_M (x y : Word32) (s : State) : (reportFound x y s).M = s.M := rfl
@[simp] theorem reportFound_curOp (x y : Word32) (s : State) : (reportFound x y s).curOp = s.curOp := rfl
@[simp] theorem reportFound_pos (x y : Word32) (s : State) : (reportFound x y s).pos = s.pos := rfl
@[simp] theorem reportFound_inputs (x y : Word32) (s : State) : (reportFound x y s).inputs = s.inputs := rfl
@[simp] theorem reportFound_resp (x y : Word32) (s : State) : (reportFound x y s).resp = s.resp := rfl
@[simp] theorem reportFound_draws (x y : Word32) (s : State) : (reportFound x y s).draws = s.draws := rfl

@[simp] theorem reportNone_ctrl (s : State) : (reportNone s).ctrl = s.ctrl := rfl
@[simp] theorem reportNone_status (s : State) : (reportNone s).status = s.status := rfl
@[simp] theorem reportNone_mixSel (s : State) : (reportNone s).mixSel = s.mixSel := rfl
@[simp] theorem reportNone_result (s : State) : (reportNone s).result = 0 := rfl
@[simp] theorem reportNone_check (s : State) : (reportNone s).check = s.check := rfl
@[simp] theorem reportNone_params (s : State) : (reportNone s).params = s.params := rfl
@[simp] theorem reportNone_aluA (s : State) : (reportNone s).aluA = s.aluA := rfl
@[simp] theorem reportNone_aluB (s : State) : (reportNone s).aluB = s.aluB := rfl
@[simp] theorem reportNone_aluR (s : State) : (reportNone s).aluR = s.aluR := rfl
@[simp] theorem reportNone_S (s : State) : (reportNone s).S = s.S := rfl
@[simp] theorem reportNone_M (s : State) : (reportNone s).M = s.M := rfl
@[simp] theorem reportNone_curOp (s : State) : (reportNone s).curOp = s.curOp := rfl
@[simp] theorem reportNone_pos (s : State) : (reportNone s).pos = s.pos := rfl
@[simp] theorem reportNone_inputs (s : State) : (reportNone s).inputs = s.inputs := rfl
@[simp] theorem reportNone_resp (s : State) : (reportNone s).resp = s.resp := rfl
@[simp] theorem reportNone_draws (s : State) : (reportNone s).draws = s.draws := rfl

@[simp] theorem writeAdd64_ctrl (l : Latch) (s : State) : (writeAdd64 l s).ctrl = s.ctrl := rfl
@[simp] theorem writeAdd64_status (l : Latch) (s : State) : (writeAdd64 l s).status = { s.status with cout := carryOut s.aluA s.aluB l.cin } := rfl
@[simp] theorem writeAdd64_mixSel (l : Latch) (s : State) : (writeAdd64 l s).mixSel = s.mixSel := rfl
@[simp] theorem writeAdd64_result (l : Latch) (s : State) : (writeAdd64 l s).result = s.result := rfl
@[simp] theorem writeAdd64_check (l : Latch) (s : State) : (writeAdd64 l s).check = s.check := rfl
@[simp] theorem writeAdd64_params (l : Latch) (s : State) : (writeAdd64 l s).params = s.params := rfl
@[simp] theorem writeAdd64_aluA (l : Latch) (s : State) : (writeAdd64 l s).aluA = s.aluA := rfl
@[simp] theorem writeAdd64_aluB (l : Latch) (s : State) : (writeAdd64 l s).aluB = s.aluB := rfl
@[simp] theorem writeAdd64_aluR (l : Latch) (s : State) : (writeAdd64 l s).aluR = addSum s.aluA s.aluB l.cin := rfl
@[simp] theorem writeAdd64_S (l : Latch) (s : State) : (writeAdd64 l s).S = s.S := rfl
@[simp] theorem writeAdd64_M (l : Latch) (s : State) : (writeAdd64 l s).M = s.M := rfl
@[simp] theorem writeAdd64_curOp (l : Latch) (s : State) : (writeAdd64 l s).curOp = s.curOp := rfl
@[simp] theorem writeAdd64_pos (l : Latch) (s : State) : (writeAdd64 l s).pos = s.pos := rfl
@[simp] theorem writeAdd64_inputs (l : Latch) (s : State) : (writeAdd64 l s).inputs = s.inputs := rfl
@[simp] theorem writeAdd64_resp (l : Latch) (s : State) : (writeAdd64 l s).resp = s.resp := rfl
@[simp] theorem writeAdd64_draws (l : Latch) (s : State) : (writeAdd64 l s).draws = s.draws := rfl

@[simp] theorem writeRotr64_ctrl (l : Latch) (s : State) : (writeRotr64 l s).ctrl = s.ctrl := rfl
@[simp] theorem writeRotr64_status (l : Latch) (s : State) : (writeRotr64 l s).status = s.status := rfl
@[simp] theorem writeRotr64_mixSel (l : Latch) (s : State) : (writeRotr64 l s).mixSel = s.mixSel := rfl
@[simp] theorem writeRotr64_result (l : Latch) (s : State) : (writeRotr64 l s).result = s.result := rfl
@[simp] theorem writeRotr64_check (l : Latch) (s : State) : (writeRotr64 l s).check = s.check := rfl
@[simp] theorem writeRotr64_params (l : Latch) (s : State) : (writeRotr64 l s).params = s.params := rfl
@[simp] theorem writeRotr64_aluA (l : Latch) (s : State) : (writeRotr64 l s).aluA = s.aluA := rfl
@[simp] theorem writeRotr64_aluB (l : Latch) (s : State) : (writeRotr64 l s).aluB = s.aluB := rfl
@[simp] theorem writeRotr64_aluR (l : Latch) (s : State) : (writeRotr64 l s).aluR = rotr64 s.aluA l.rot := rfl
@[simp] theorem writeRotr64_S (l : Latch) (s : State) : (writeRotr64 l s).S = s.S := rfl
@[simp] theorem writeRotr64_M (l : Latch) (s : State) : (writeRotr64 l s).M = s.M := rfl
@[simp] theorem writeRotr64_curOp (l : Latch) (s : State) : (writeRotr64 l s).curOp = s.curOp := rfl
@[simp] theorem writeRotr64_pos (l : Latch) (s : State) : (writeRotr64 l s).pos = s.pos := rfl
@[simp] theorem writeRotr64_inputs (l : Latch) (s : State) : (writeRotr64 l s).inputs = s.inputs := rfl
@[simp] theorem writeRotr64_resp (l : Latch) (s : State) : (writeRotr64 l s).resp = s.resp := rfl
@[simp] theorem writeRotr64_draws (l : Latch) (s : State) : (writeRotr64 l s).draws = s.draws := rfl

@[simp] theorem writeLoadiv_ctrl (p : Params) (s : State) : (writeLoadiv p s).ctrl = s.ctrl := rfl
@[simp] theorem writeLoadiv_status (p : Params) (s : State) : (writeLoadiv p s).status = s.status := rfl
@[simp] theorem writeLoadiv_mixSel (p : Params) (s : State) : (writeLoadiv p s).mixSel = s.mixSel := rfl
@[simp] theorem writeLoadiv_result (p : Params) (s : State) : (writeLoadiv p s).result = s.result := rfl
@[simp] theorem writeLoadiv_check (p : Params) (s : State) : (writeLoadiv p s).check = s.check := rfl
@[simp] theorem writeLoadiv_params (p : Params) (s : State) : (writeLoadiv p s).params = s.params := rfl
@[simp] theorem writeLoadiv_aluA (p : Params) (s : State) : (writeLoadiv p s).aluA = s.aluA := rfl
@[simp] theorem writeLoadiv_aluB (p : Params) (s : State) : (writeLoadiv p s).aluB = s.aluB := rfl
@[simp] theorem writeLoadiv_aluR (p : Params) (s : State) : (writeLoadiv p s).aluR = s.aluR := rfl
@[simp] theorem writeLoadiv_S (p : Params) (s : State) : (writeLoadiv p s).S = ivFile p := rfl
@[simp] theorem writeLoadiv_M (p : Params) (s : State) : (writeLoadiv p s).M = s.M := rfl
@[simp] theorem writeLoadiv_curOp (p : Params) (s : State) : (writeLoadiv p s).curOp = s.curOp := rfl
@[simp] theorem writeLoadiv_pos (p : Params) (s : State) : (writeLoadiv p s).pos = s.pos := rfl
@[simp] theorem writeLoadiv_inputs (p : Params) (s : State) : (writeLoadiv p s).inputs = s.inputs := rfl
@[simp] theorem writeLoadiv_resp (p : Params) (s : State) : (writeLoadiv p s).resp = s.resp := rfl
@[simp] theorem writeLoadiv_draws (p : Params) (s : State) : (writeLoadiv p s).draws = s.draws := rfl

@[simp] theorem writeMix_ctrl (l : Latch) (s : State) : (writeMix l s).ctrl = s.ctrl := rfl
@[simp] theorem writeMix_status (l : Latch) (s : State) : (writeMix l s).status = s.status := rfl
@[simp] theorem writeMix_mixSel (l : Latch) (s : State) : (writeMix l s).mixSel = s.mixSel := rfl
@[simp] theorem writeMix_result (l : Latch) (s : State) : (writeMix l s).result = s.result := rfl
@[simp] theorem writeMix_check (l : Latch) (s : State) : (writeMix l s).check = s.check := rfl
@[simp] theorem writeMix_params (l : Latch) (s : State) : (writeMix l s).params = s.params := rfl
@[simp] theorem writeMix_aluA (l : Latch) (s : State) : (writeMix l s).aluA = s.aluA := rfl
@[simp] theorem writeMix_aluB (l : Latch) (s : State) : (writeMix l s).aluB = s.aluB := rfl
@[simp] theorem writeMix_aluR (l : Latch) (s : State) : (writeMix l s).aluR = s.aluR := rfl
@[simp] theorem writeMix_S (l : Latch) (s : State) : (writeMix l s).S = mix (fileIndex l.mixSel.a) (fileIndex l.mixSel.b) (fileIndex l.mixSel.c) (fileIndex l.mixSel.d) s.M[fileIndex l.mixSel.mx] s.M[fileIndex l.mixSel.my] s.S := rfl
@[simp] theorem writeMix_M (l : Latch) (s : State) : (writeMix l s).M = s.M := rfl
@[simp] theorem writeMix_curOp (l : Latch) (s : State) : (writeMix l s).curOp = s.curOp := rfl
@[simp] theorem writeMix_pos (l : Latch) (s : State) : (writeMix l s).pos = s.pos := rfl
@[simp] theorem writeMix_inputs (l : Latch) (s : State) : (writeMix l s).inputs = s.inputs := rfl
@[simp] theorem writeMix_resp (l : Latch) (s : State) : (writeMix l s).resp = s.resp := rfl
@[simp] theorem writeMix_draws (l : Latch) (s : State) : (writeMix l s).draws = s.draws := rfl

@[simp] theorem writeCompress_ctrl (p : Params) (s : State) : (writeCompress p s).ctrl = s.ctrl := rfl
@[simp] theorem writeCompress_status (p : Params) (s : State) : (writeCompress p s).status = s.status := rfl
@[simp] theorem writeCompress_mixSel (p : Params) (s : State) : (writeCompress p s).mixSel = s.mixSel := rfl
@[simp] theorem writeCompress_result (p : Params) (s : State) : (writeCompress p s).result = s.result := rfl
@[simp] theorem writeCompress_check (p : Params) (s : State) : (writeCompress p s).check = s.check := rfl
@[simp] theorem writeCompress_params (p : Params) (s : State) : (writeCompress p s).params = s.params := rfl
@[simp] theorem writeCompress_aluA (p : Params) (s : State) : (writeCompress p s).aluA = s.aluA := rfl
@[simp] theorem writeCompress_aluB (p : Params) (s : State) : (writeCompress p s).aluB = s.aluB := rfl
@[simp] theorem writeCompress_aluR (p : Params) (s : State) : (writeCompress p s).aluR = s.aluR := rfl
@[simp] theorem writeCompress_S (p : Params) (s : State) : (writeCompress p s).S = compressFile p s.M s.S := rfl
@[simp] theorem writeCompress_M (p : Params) (s : State) : (writeCompress p s).M = s.M := rfl
@[simp] theorem writeCompress_curOp (p : Params) (s : State) : (writeCompress p s).curOp = s.curOp := rfl
@[simp] theorem writeCompress_pos (p : Params) (s : State) : (writeCompress p s).pos = roundsEnd s.pos := rfl
@[simp] theorem writeCompress_inputs (p : Params) (s : State) : (writeCompress p s).inputs = s.inputs := rfl
@[simp] theorem writeCompress_resp (p : Params) (s : State) : (writeCompress p s).resp = s.resp := rfl
@[simp] theorem writeCompress_draws (p : Params) (s : State) : (writeCompress p s).draws = s.draws := rfl

@[simp] theorem statementAt_ctrl (p : Params) (s : State) : (statementAt p s).ctrl = s.ctrl := rfl
@[simp] theorem statementAt_status (p : Params) (s : State) : (statementAt p s).status = s.status := rfl
@[simp] theorem statementAt_mixSel (p : Params) (s : State) : (statementAt p s).mixSel = s.mixSel := rfl
@[simp] theorem statementAt_result (p : Params) (s : State) : (statementAt p s).result = s.result := rfl
@[simp] theorem statementAt_check (p : Params) (s : State) : (statementAt p s).check = s.check := rfl
@[simp] theorem statementAt_params (p : Params) (s : State) : (statementAt p s).params = s.params := rfl
@[simp] theorem statementAt_aluA (p : Params) (s : State) : (statementAt p s).aluA = s.aluA := rfl
@[simp] theorem statementAt_aluB (p : Params) (s : State) : (statementAt p s).aluB = s.aluB := rfl
@[simp] theorem statementAt_aluR (p : Params) (s : State) : (statementAt p s).aluR = s.aluR := rfl
@[simp] theorem statementAt_S (p : Params) (s : State) : (statementAt p s).S = roundStep p s.M s.pos.r s.pos.i s.pos.k s.S := rfl
@[simp] theorem statementAt_M (p : Params) (s : State) : (statementAt p s).M = s.M := rfl
@[simp] theorem statementAt_curOp (p : Params) (s : State) : (statementAt p s).curOp = s.curOp := rfl
@[simp] theorem statementAt_pos (p : Params) (s : State) : (statementAt p s).pos = s.pos := rfl
@[simp] theorem statementAt_inputs (p : Params) (s : State) : (statementAt p s).inputs = s.inputs := rfl
@[simp] theorem statementAt_resp (p : Params) (s : State) : (statementAt p s).resp = s.resp := rfl
@[simp] theorem statementAt_draws (p : Params) (s : State) : (statementAt p s).draws = s.draws := rfl

@[simp] theorem takeDraw_ctrl (g : Word32 → Response) (s : State) : (takeDraw g s).ctrl = s.ctrl := rfl
@[simp] theorem takeDraw_status (g : Word32 → Response) (s : State) : (takeDraw g s).status = s.status := rfl
@[simp] theorem takeDraw_mixSel (g : Word32 → Response) (s : State) : (takeDraw g s).mixSel = s.mixSel := rfl
@[simp] theorem takeDraw_result (g : Word32 → Response) (s : State) : (takeDraw g s).result = s.result := rfl
@[simp] theorem takeDraw_check (g : Word32 → Response) (s : State) : (takeDraw g s).check = s.check := rfl
@[simp] theorem takeDraw_params (g : Word32 → Response) (s : State) : (takeDraw g s).params = s.params := rfl
@[simp] theorem takeDraw_aluA (g : Word32 → Response) (s : State) : (takeDraw g s).aluA = s.aluA := rfl
@[simp] theorem takeDraw_aluB (g : Word32 → Response) (s : State) : (takeDraw g s).aluB = s.aluB := rfl
@[simp] theorem takeDraw_aluR (g : Word32 → Response) (s : State) : (takeDraw g s).aluR = s.aluR := rfl
@[simp] theorem takeDraw_S (g : Word32 → Response) (s : State) : (takeDraw g s).S = s.S := rfl
@[simp] theorem takeDraw_M (g : Word32 → Response) (s : State) : (takeDraw g s).M = s.M := rfl
@[simp] theorem takeDraw_curOp (g : Word32 → Response) (s : State) : (takeDraw g s).curOp = s.curOp := rfl
@[simp] theorem takeDraw_pos (g : Word32 → Response) (s : State) : (takeDraw g s).pos = s.pos := rfl
@[simp] theorem takeDraw_inputs (g : Word32 → Response) (s : State) : (takeDraw g s).inputs = s.inputs := rfl
@[simp] theorem takeDraw_resp (g : Word32 → Response) (s : State) : (takeDraw g s).resp = some (g (Config.draw s.draws)) := rfl
@[simp] theorem takeDraw_draws (g : Word32 → Response) (s : State) : (takeDraw g s).draws = s.draws + 1 := rfl

@[simp] theorem raiseError_eq (e : ErrCode) (s : State) : raiseError e s = complete e s := rfl

@[simp] theorem busy_of_none (s : State) (h : s.curOp = none) : s.busy = false := by simp [State.busy, h]

@[simp] theorem busy_of_some (s : State) (l : Latch) (h : s.curOp = some l) : s.busy = true := by simp [State.busy, h]

theorem busy_eq_false_iff (s : State) : s.busy = false ↔ s.curOp = none := by simp [State.busy]

@[simp] theorem complete_busy (e : ErrCode) (s : State) : (complete e s).busy = false := rfl

@[simp] theorem acceptStart_busy (o : Op) (s : State) : (acceptStart o s).busy = true := rfl

@[simp] theorem resetCore_busy (s : State) : (resetCore s).busy = false := rfl

@[simp] theorem dropWrite_busy (s : State) : (dropWrite s).busy = s.busy := rfl

@[simp] theorem setCtrl_busy (q c : Bool) (o : BitVec 4) (n : BitVec 6) (s : State) : (setCtrl q c o n s).busy = s.busy := rfl

@[simp] theorem acknowledge_busy (v : Word32) (s : State) : (acknowledge v s).busy = s.busy := rfl

@[simp] theorem takeDraw_busy (g : Word32 → Response) (s : State) : (takeDraw g s).busy = s.busy := rfl

end Sys2Proof.Machine
end

