-- ==== Sys2Proof/Laws/Ops.lean ====
section
/-! SUPPORT. For each shared operation, one lemma a case: all it can do. The provers cite these instead of unfolding. -/

namespace Sys2Proof.Machine

/-! ### Commands (43_control.md) -/

theorem startOp_busy (o : Op) (q c : Bool) (n : BitVec 6) (rule : Latch → State → State) (s : State) (h : s.busy = true) :
    startOp o q c n rule s = .next (dropWrite s) := by simp [startOp, h]

theorem startOp_whole (o : Op) (q c : Bool) (n : BitVec 6) (rule : Latch → State → State) (s : State) (h : s.busy = false)
    (hi : s.inputs = []) :
    startOp o q c n rule s =
      .next (rule (sample o (setCtrl q c o.code n s)) (acceptStart o (setCtrl q c o.code n s))) := by
  simp [startOp, h, hi]

theorem startOp_left_running (o : Op) (q c : Bool) (n : BitVec 6) (rule : Latch → State → State) (s : State)
    (h : s.busy = false) (hi : s.inputs ≠ []) :
    startOp o q c n rule s = .next (acceptStart o (setCtrl q c o.code n s)) := by
  simp [startOp, h, hi]

/-- Everything a command word with START and a code of R53 can do. -/
theorem startOp_cases (o : Op) (q c : Bool) (n : BitVec 6) (rule : Latch → State → State) (s : State) :
    (s.busy = true ∧ startOp o q c n rule s = .next (dropWrite s)) ∨
    (s.busy = false ∧ s.inputs = [] ∧ startOp o q c n rule s =
      .next (rule (sample o (setCtrl q c o.code n s)) (acceptStart o (setCtrl q c o.code n s)))) ∨
    (s.busy = false ∧ s.inputs ≠ [] ∧ startOp o q c n rule s = .next (acceptStart o (setCtrl q c o.code n s))) := by
  rcases hb : s.busy with _ | _
  · by_cases hi : s.inputs = []
    · exact .inr (.inl ⟨rfl, hi, startOp_whole o q c n rule s hb hi⟩)
    · exact .inr (.inr ⟨rfl, hi, startOp_left_running o q c n rule s hb hi⟩)
  · exact .inl ⟨rfl, startOp_busy o q c n rule s hb⟩

theorem startReserved_busy (q c : Bool) (o : BitVec 4) (n : BitVec 6) (s : State) (h : s.busy = true) :
    startReserved q c o n s = .next (dropWrite s) := by simp [startReserved, h]

theorem startReserved_idle (q c : Bool) (o : BitVec 4) (n : BitVec 6) (s : State) (h : s.busy = false) :
    startReserved q c o n s =
      .next { s with ctrl := ⟨q, c, o, n⟩, status := { s.status with done := true, err := 2 } } := by
  simp [startReserved, complete, setCtrl, ErrCode.code, (busy_eq_false_iff s).mp h]

/-! ### The files and the mixing primitive (40_arith.md, 41_mix_compress.md) -/

/-- The adder unit with carry-in 0 is addition modulo 2^64 (R65). -/
@[simp] theorem addSum_false (a b : Word64) : addSum a b false = a + b := by
  simp [addSum, BitVec.ofNat_add]

/-- A loop over 0 to 7, unrolled for any body. (Unrolling `mix` itself by `rfl` would make Lean compare whole mixes.) -/
theorem foldl_finRange_eight {α : Type} (f : α → Fin 8 → α) (x : α) :
    (List.finRange 8).foldl f x = f (f (f (f (f (f (f (f x 0) 1) 2) 3) 4) 5) 6) 7 := by
  rw [show List.finRange 8 = [0, 1, 2, 3, 4, 5, 6, 7] by decide]; rfl

/-- A loop over 0 to 11, unrolled for any body. -/
theorem foldl_finRange_twelve {α : Type} (f : α → Fin 12 → α) (x : α) :
    (List.finRange 12).foldl f x =
      f (f (f (f (f (f (f (f (f (f (f (f x 0) 1) 2) 3) 4) 5) 6) 7) 8) 9) 10) 11 := by
  rw [show List.finRange 12 = [0, 1, 2, 3, 4, 5, 6, 7, 8, 9, 10, 11] by decide]; rfl

/-- The mixing primitive as its eight statements, innermost first (R72). -/
theorem mix_eq_steps (a b c d : Fin 16) (mx my : Word64) (S : WordFile) :
    mix a b c d mx my S =
      mixStep 7 a b c d mx my (mixStep 6 a b c d mx my (mixStep 5 a b c d mx my (mixStep 4 a b c d mx my
        (mixStep 3 a b c d mx my (mixStep 2 a b c d mx my (mixStep 1 a b c d mx my (mixStep 0 a b c d mx my S))))))) := by
  rw [mix]; exact foldl_finRange_eight _ _

theorem mixRound_eq_mixes (p : Params) (M : WordFile) (r : Fin 12) (S : WordFile) :
    mixRound p M r S =
      roundMix p M r 7 (roundMix p M r 6 (roundMix p M r 5 (roundMix p M r 4
        (roundMix p M r 3 (roundMix p M r 2 (roundMix p M r 1 (roundMix p M r 0 S))))))) := by
  rw [mixRound]; exact foldl_finRange_eight _ _

theorem compressFile_eq_rounds (p : Params) (M S : WordFile) :
    compressFile p M S =
      mixRound p M 11 (mixRound p M 10 (mixRound p M 9 (mixRound p M 8 (mixRound p M 7 (mixRound p M 6
        (mixRound p M 5 (mixRound p M 4 (mixRound p M 3 (mixRound p M 2 (mixRound p M 1 (mixRound p M 0 S))))))))))) := by
  rw [compressFile]; exact foldl_finRange_twelve _ _

/-- A mix of the round sequencer, statement by statement (R76, R78). -/
theorem roundMix_eq_steps (p : Params) (M : WordFile) (r : Fin 12) (i : Fin 8) (S : WordFile) :
    roundMix p M r i S = (List.finRange 8).foldl (fun S k => roundStep p M r i k S) S := by
  simp only [roundMix, roundStep, mix]

/-! ### The parameter registers -/

theorem readParam_writeParam_self (P : ParamFile) (p : Param) (v : Word32) : readParam (writeParam P p v) p = v := by
  simp [readParam, writeParam]

theorem Param.index_injective : Function.Injective Param.index := by
  intro p q h
  cases p <;> cases q <;> first | rfl | (simp [Param.index] at h)

theorem readParam_writeParam_ne (P : ParamFile) (p q : Param) (v : Word32) (h : p ≠ q) :
    readParam (writeParam P p v) q = readParam P q := by
  have : (p.index : Nat) ≠ q.index := fun e => h (Param.index_injective (Fin.ext e))
  simp [readParam, writeParam, this]

/-! ### The scan (42_search.md) -/

theorem scan_zero (p : Params) (n : Nat) (s : State) : scan p 0 n s = reportNone s := rfl

theorem scan_succ (p : Params) (fuel n : Nat) (s : State) :
    scan p (fuel + 1) n s =
      if exceeds (visit p (visitXX (readParam s.params .blockSize) n) (visitYY (readParam s.params .blockSize) n) s).check
          (readParam s.params .difficulty) then
        reportFound (visitXX (readParam s.params .blockSize) n) (visitYY (readParam s.params .blockSize) n)
          (visit p (visitXX (readParam s.params .blockSize) n) (visitYY (readParam s.params .blockSize) n) s)
      else scan p fuel (n + 1)
          (visit p (visitXX (readParam s.params .blockSize) n) (visitYY (readParam s.params .blockSize) n) s) := rfl

@[simp] theorem visit_params (p : Params) (xx yy : Word32) (s : State) : (visit p xx yy s).params = s.params := rfl

/-- A visit forgets what the earlier ones left (R94). -/
theorem visit_visit (p : Params) (xx yy xx' yy' : Word32) (s : State) :
    visit p xx yy (visit p xx' yy' s) = visit p xx yy s := rfl

/-! ### The core's own steps (41_mix_compress.md R78, 42_search.md R97) -/

theorem coreStep_idle (s : State) (h : s.busy = false) : coreStep s = s := by
  simp [coreStep, (busy_eq_false_iff s).mp h]

theorem coreStep_running (s : State) (l : Latch) (h : s.curOp = some l) :
    coreStep s =
      match l.op with
      | .nop => ruleNop s
      | .loadiv => ruleLoadiv Config.params s
      | .mix => ruleMix l s
      | .compress => compressStep Config.params s
      | .search => searchStep Config.params s
      | .add64 => ruleAdd64 l s
      | .rotr64 => ruleRotr64 l s := by
  obtain ⟨o, c, n, m⟩ := l
  cases o <;> simp [coreStep, h]

theorem coreRun_zero (s : State) : coreRun 0 s = s := rfl

theorem coreRun_succ (n : Nat) (s : State) : coreRun (n + 1) s = coreRun n (coreStep s) := rfl

theorem coreRun_add (m n : Nat) (s : State) : coreRun (m + n) s = coreRun n (coreRun m s) := by
  induction m generalizing s with
  | zero => simp [coreRun]
  | succ m ih => rw [Nat.succ_add, coreRun_succ, coreRun_succ, ih]

/-- An idle core stays idle, however long it is left (60_exceptions.md R119). -/
theorem coreRun_idle (n : Nat) (s : State) (h : s.busy = false) : coreRun n s = s := by
  induction n with
  | zero => rfl
  | succ n ih => rw [coreRun_succ, coreStep_idle s h, ih]

/-! ### Inputs (20_memory.md) -/

theorem step_of_no_input (s : State) (h : s.inputs = []) : step s = .next (coreStep s) := by
  simp [step, nextTurn, h]

theorem step_of_core (s : State) (n : Nat) (rest : List Input) (h : s.inputs = .core n :: rest) :
    step s = .next (coreRun n { s with inputs := rest }) := by simp [step, nextTurn, h]

theorem step_of_reset (s : State) (rest : List Input) (h : s.inputs = .reset :: rest) :
    step s = .next (resetCore { s with inputs := rest }) := by simp [step, nextTurn, h]

theorem step_of_access (s : State) (a : Access) (rest : List Input) (h : s.inputs = .access a :: rest) :
    step s = match deliver a { s with inputs := rest } with
      | .settled o => o
      | .command i t => exec i t := by
  rcases hd : deliver a { s with inputs := rest } with o | ⟨i, t⟩ <;> simp [step, nextTurn, h, hd]

theorem deliver_outside (a : Access) (s : State) (h : a.inWindow = false) :
    deliver a s = .settled (.fault (.outsideWindow a.addr)) := by simp [deliver, h]

theorem deliver_misaligned (a : Access) (s : State) (h : a.inWindow = true) (ha : a.aligned = false) :
    deliver a s = .settled (.next (busError a s)) := by simp [deliver, h, ha]

theorem deliver_read (off size : Nat) (s : State) (h : (Access.read off size).inWindow = true)
    (ha : (Access.read off size).aligned = true) :
    deliver (.read off size) s = .settled (.next (hostRead (Reg.ofOffset off) s)) := by simp [deliver, h, ha]

theorem deliver_command (off size : Nat) (v : Word32) (s : State) (h : (Access.write off size v).inWindow = true)
    (ha : (Access.write off size v).aligned = true) (hr : Reg.ofOffset off = .ctrl) :
    deliver (.write off size v) s = .command (decodeWord v) { s with resp := some .writeOk } := by
  simp [deliver, h, ha, hr]

theorem deliver_write (off size : Nat) (v : Word32) (s : State) (h : (Access.write off size v).inWindow = true)
    (ha : (Access.write off size v).aligned = true) (hr : Reg.ofOffset off ≠ .ctrl) :
    deliver (.write off size v) s =
      .settled (.next (hostWrite (Reg.ofOffset off) v { s with resp := some .writeOk })) := by
  simp [deliver, h, ha, hr]

/-- Everything a write to a register other than CTRL can do (R40, R42). -/
theorem hostWrite_cases (r : Reg) (v : Word32) (s : State) :
    (r = .status ∧ hostWrite r v s = acknowledge v s) ∨
    (r ≠ .status ∧ r.plainWritable = true ∧ s.busy = true ∧ hostWrite r v s = dropWrite s) ∨
    (r ≠ .status ∧ r.plainWritable = true ∧ s.busy = false ∧ hostWrite r v s = writeReg s r v) ∨
    (r ≠ .status ∧ r.plainWritable = false ∧ hostWrite r v s = s) := by
  unfold hostWrite
  by_cases h : r = .status
  · simp [h]
  · rcases hp : r.plainWritable with _ | _
    · simp [h]
    · rcases hb : s.busy with _ | _ <;> simp [h]

/-- Everything a read can do (R39, R41). -/
theorem hostRead_cases (r : Reg) (s : State) :
    (s.busy = true ∧ r.drawnWhileBusy = true ∧ hostRead r s = takeDraw .readOk s) ∨
    ((s.busy = false ∨ r.drawnWhileBusy = false) ∧ hostRead r s = { s with resp := some (.readOk (readReg s r)) }) := by
  unfold hostRead
  rcases s.busy with _ | _ <;> rcases r.drawnWhileBusy with _ | _ <;> simp

end Sys2Proof.Machine
end

