-- ==== Sys2Proof/Laws/PerInstr.lean ====
section
/-! SUPPORT. Statements made per instruction: the word an instruction encodes to belongs to its own row of the opcode table
and to no other (30_encoding.md R52 to R54). -/

namespace Sys2Proof.Laws.EncodesRow

/-- The place of an instruction's row in the table. -/
def rowIndex : Instr → Nat
  | .nop _ _ _ => 0
  | .loadiv _ _ _ => 1
  | .mix _ _ _ => 2
  | .compress _ _ _ => 3
  | .search _ _ _ => 4
  | .add64 _ _ _ => 5
  | .rotr64 _ _ _ => 6
  | .illegal7 _ _ _ => 7
  | .illegal8F _ _ _ _ => 8
  | .srst => 9
  | .ctrlset _ _ _ _ => 10

/-- The row at that place has the instruction's mnemonic. -/
theorem mnemonic_of_rowIndex (i : Instr) : (opcodeRows[rowIndex i]?).map (·.mnemonic) = some i.mnemonic := by
  cases i <;> rfl

/-- A well-formed instruction's word is held by its own row and by no other. -/
def Statement (i : Instr) : Prop :=
  i.wf = true → opcodeRows.map (fun row => row.holds (encode i)) = (List.range 11).map (· == rowIndex i)

/-- The word with the rotation amount 0 differs from the word only in bits 13:8 (R51). -/
theorem commandWord_and_of_mask (rot : BitVec 6) (op : BitVec 4) (cin irqEn srst start : Bool) (m : Word32)
    (hm : ∀ i : Fin 6, m.getLsbD (8 + i.val) = false) :
    commandWord rot op cin irqEn srst start &&& m = commandWord 0 op cin irqEn srst start &&& m := by
  apply BitVec.eq_of_getLsbD_eq
  intro i _
  simp only [BitVec.getLsbD_and]
  by_cases h : 8 ≤ i ∧ i < 14
  · have := hm ⟨i - 8, by omega⟩
    rw [show 8 + (i - 8) = i by omega] at this
    simp [this]
  · congr 1
    simp only [commandWord, BitVec.getLsbD_append]
    rcases Nat.lt_or_ge i 8 with h8 | h8
    · have h6 : i - 1 - 1 - 1 - 1 < 4 := by omega
      simp [h6]
    · have h4 : ¬ i - 1 - 1 - 1 - 1 < 4 := by omega
      have h6 : ¬ i - 1 - 1 - 1 - 1 - 4 < 6 := by omega
      simp [h4, h6]

/-- No row of the table looks at ROT. -/
theorem rows_ignore_rot : ∀ row ∈ opcodeRows, ∀ i : Fin 6, row.mask.getLsbD (8 + i.val) = false := by decide +kernel

/-- So an instruction's rows are those of its word with the rotation amount 0. -/
theorem flags_ignore_rot (rot : BitVec 6) (op : BitVec 4) (cin irqEn srst start : Bool) :
    opcodeRows.map (fun row => row.holds (commandWord rot op cin irqEn srst start)) =
      opcodeRows.map (fun row => row.holds (commandWord 0 op cin irqEn srst start)) := by
  apply List.map_congr_left
  intro row hr
  simp only [OpcodeRow.holds, commandWord_and_of_mask rot op cin irqEn srst start row.mask (rows_ignore_rot row hr)]

theorem nop (irqEn cin : Bool) (rot : BitVec 6) : Statement (.nop irqEn cin rot) := by
  intro h; clear h
  rw [encode, flags_ignore_rot, rowIndex]
  revert irqEn cin; decide +kernel

theorem loadiv (irqEn cin : Bool) (rot : BitVec 6) : Statement (.loadiv irqEn cin rot) := by
  intro h; clear h
  rw [encode, flags_ignore_rot, rowIndex]
  revert irqEn cin; decide +kernel

theorem mix (irqEn cin : Bool) (rot : BitVec 6) : Statement (.mix irqEn cin rot) := by
  intro h; clear h
  rw [encode, flags_ignore_rot, rowIndex]
  revert irqEn cin; decide +kernel

theorem compress (irqEn cin : Bool) (rot : BitVec 6) : Statement (.compress irqEn cin rot) := by
  intro h; clear h
  rw [encode, flags_ignore_rot, rowIndex]
  revert irqEn cin; decide +kernel

theorem search (irqEn cin : Bool) (rot : BitVec 6) : Statement (.search irqEn cin rot) := by
  intro h; clear h
  rw [encode, flags_ignore_rot, rowIndex]
  revert irqEn cin; decide +kernel

theorem add64 (irqEn cin : Bool) (rot : BitVec 6) : Statement (.add64 irqEn cin rot) := by
  intro h; clear h
  rw [encode, flags_ignore_rot, rowIndex]
  revert irqEn cin; decide +kernel

theorem rotr64 (irqEn cin : Bool) (rot : BitVec 6) : Statement (.rotr64 irqEn cin rot) := by
  intro h; clear h
  rw [encode, flags_ignore_rot, rowIndex]
  revert irqEn cin; decide +kernel

theorem illegal7 (irqEn cin : Bool) (rot : BitVec 6) : Statement (.illegal7 irqEn cin rot) := by
  intro h; clear h
  rw [encode, flags_ignore_rot, rowIndex]
  revert irqEn cin; decide +kernel

theorem illegal8F (op : BitVec 4) (irqEn cin : Bool) (rot : BitVec 6) : Statement (.illegal8F op irqEn cin rot) := by
  rw [Statement, Instr.wf, encode, flags_ignore_rot, rowIndex]
  revert op irqEn cin; decide +kernel

theorem srst : Statement .srst := by unfold Statement; decide +kernel

theorem ctrlset (irqEn cin : Bool) (op : BitVec 4) (rot : BitVec 6) : Statement (.ctrlset irqEn cin op rot) := by
  intro h; clear h
  rw [encode, flags_ignore_rot, rowIndex]
  revert irqEn cin op; decide +kernel

end Sys2Proof.Laws.EncodesRow
end

