-- ==== Sys2Proof/Tests/Slice0.lean ====
section
/-! SUPPORT. Tests. Expected values are those of 95_test_vectors.md, by the vector's name, or worked by hand from the rule named.
The theorems test_witness_O<n>_* show a state and operands that meet the hypotheses of statement O<n> together. -/

namespace Sys2Proof.Tests

open Sys2Proof.Machine

-- One theorem at a time: side by side, the evaluations below would wait for each other on more threads than memory allows.
set_option Elab.async false

/-! ### Small states -/

/-- An idle machine with these inputs to come. -/
def idle (inputs : List Input) : State := { State.reset with inputs := inputs }

/-- A machine with an operation running and these inputs to come. -/
def busy (op : Op) (inputs : List Input) : State :=
  { State.reset with curOp := some ⟨op, false, 0, MixSel.zero⟩, inputs := inputs }

/-- The state after one step, if there is one. -/
def after (s : State) : Option State :=
  match step s with
  | .next t => some t
  | .fault _ => none
  | .refused _ => none

/-- One host write, as the only input. -/
def wr (off : Nat) (v : Word32) (s : State) : Option State := after { s with inputs := [.access (.write off 4 v)] }

/-- What one host read answers. -/
def rd (off : Nat) (s : State) : Option Response :=
  (after { s with inputs := [.access (.read off 4)] }).bind (·.resp)

/-- STATUS, CTRL and irq after one host write: the columns of the table of 2.5. -/
def flags (t : Option State) : Option (Word32 × Word32 × Bool) := t.map fun t => (statusWord t, ctrlWord t.ctrl, t.irq)

/-- S[i] = i. -/
def counted : WordFile := #v[0, 1, 2, 3, 4, 5, 6, 7, 8, 9, 10, 11, 12, 13, 14, 15]

/-- All words 0. -/
def zeros : WordFile := Vector.replicate 16 0

/-! ### Ill-formed terms -/

/-- R53: the row of codes 0x8 to 0xF holds no code below 8. -/
theorem test_illformed_code_refused : (Instr.illegal8F 0x3 false false 0).wf = false ∧ (Instr.illegal8F 0x8 false false 0).wf = true := by
  decide

/-- R61, R63: operands out of range are refused. -/
theorem test_illformed_lines_refused :
    assemble (.rotr64 64 false) = none ∧ mixStmts 16 0 0 0 0 0 = none ∧ mixStmts 0 0 0 0 0 16 = none := by decide

/-- R60, I5: an odd entry is refused by name. -/
theorem test_illformed_configuration_refused :
    (match (Params.mk (fun _ => 0) (fun _ _ => 7) 0).accept with | .ok _ => false | .error e => e == .oddSigmaEntry) = true := by
  decide

/-- R37, R35: a misaligned offset, another size, and the end of the window. -/
theorem test_illformed_accesses :
    (Access.read 0x002 4).aligned = false ∧ (Access.write 0x014 2 0).aligned = false ∧
    (Access.read 0x1FC 4).inWindow = true ∧ (Access.read 0x200 4).inWindow = false := by decide

/-! ### Decoding: words from V-E1 to V-E9, and the rows of R53 written bit by bit -/

theorem test_decode_nop : decodeWord 0b00000000000000000000000000000001 = .nop false false 0 := by decide
theorem test_decode_loadiv : decodeWord 0b00000000000000000000000000010001 = .loadiv false false 0 := by decide
theorem test_decode_mix : decodeWord 0b00000000000000000000000000100001 = .mix false false 0 := by decide
theorem test_decode_compress : decodeWord 0b00000000000000000000000000110001 = .compress false false 0 := by decide
theorem test_decode_search : decodeWord 0b00000000000000000000000001000101 = .search true false 0 := by decide
theorem test_decode_add64 : decodeWord 0b00000000000000000000000001011001 = .add64 false true 0 := by decide
theorem test_decode_rotr64 : decodeWord 0b00000000000000000011111101100001 = .rotr64 false false 63 := by decide
theorem test_decode_rotr64_reserved_bits : decodeWord 0b11111111111111111100000001100001 = .rotr64 false false 0 := by decide
theorem test_decode_illegal7 : decodeWord 0b00000000000000000000000001110001 = .illegal7 false false 0 := by decide
theorem test_decode_illegal8F : decodeWord 0b00000000000000000000000010000001 = .illegal8F 0x8 false false 0 ∧
    decodeWord 0b00000000000000000000000011111101 = .illegal8F 0xF true true 0 := by decide
theorem test_decode_srst : decodeWord 0b00000000000000000000000001000011 = .srst ∧
    decodeWord 0b11111111111111111111111111111110 = .srst := by decide
theorem test_decode_ctrlset : decodeWord 0b00000000000000000000000011110000 = .ctrlset false false 0xF 0 ∧
    decodeWord 0b00000000000000000010000000000100 = .ctrlset true false 0 0x20 := by decide

/-- R50, R38: four byte lanes, lane 0 first; fewer are no command word. -/
theorem test_decode_lanes :
    (match decode [0x61, 0x3F, 0x00, 0x00, 0xAA] with | .ok r => r == (.rotr64 false false 63, [0xAA]) | .error _ => false) = true ∧
    (match decode [0x61, 0x3F, 0x00] with | .ok _ => false | .error e => e == .truncated) = true ∧
    decodeTableWord 32 0x3F61 = some (.rotr64 false false 63) := by decide

/-- Two rows are apart when some bit that both name differs: then no word belongs to both. -/
theorem test_rows_do_not_overlap :
    opcodeRows.Pairwise (fun a b => a.mask &&& b.mask &&& (a.pattern ^^^ b.pattern) ≠ 0) := by
  decide

/-- Every bit of a row's pattern is a bit of its mask. -/
theorem test_rows_are_patterns : ∀ row ∈ opcodeRows, row.pattern &&& ~~~row.mask = 0 := by decide

/-! ### The units: V-A3, V-A4, V-A6, V-R3, V-R8, V-M1, V-M4 -/

theorem test_add64_wraps :
    addSum 0xFFFFFFFFFFFFFFFF 1 false = 0 ∧ carryOut 0xFFFFFFFFFFFFFFFF 1 false = true ∧
    addSum 0xFFFFFFFFFFFFFFFF 0xFFFFFFFFFFFFFFFF true = 0xFFFFFFFFFFFFFFFF ∧
    carryOut 0x00000000FFFFFFFF 1 false = false ∧ addSum 0x00000000FFFFFFFF 1 false = 0x0000000100000000 := by decide +kernel

theorem test_rotr64_amounts :
    rotr64 0x0123456789ABCDEF 0 = 0x0123456789ABCDEF ∧ rotr64 0x0123456789ABCDEF 4 = 0xF0123456789ABCDE ∧
    rotr64 0x0123456789ABCDEF 63 = 0x02468ACF13579BDE := by decide +kernel

theorem test_mix_vector :
    mix 0 4 8 12 1 2 counted =
      (((counted.set 0 0x00000C0000000907).set 4 0x120E181218121210).set 8 0x090700090C090008).set 12 0x090700000C090000 := by
  decide +kernel

theorem test_mix_aliased :
    mix 1 1 2 3 0x10 0x10 counted =
      ((counted.set 1 0x4420402240224424).set 2 0x2210001120110002).set 3 0x2210000020110000 := by
  decide +kernel

/-! ### The packed formats: V-W4, V-W5, V-P2, V-P3, V-B6 -/

/-- Parameters: OFFSET_X, OFFSET_Y, BLOCK_SIZE, DIFFICULTY, and the default inputs. -/
def defaults (x y bs d : Word32) : ParamFile :=
  #v[x, y, bs, d, 0, 0, 0x11, 0x22, 1, 2, 3, 4, 0xA0, 0xA1, 0xA2, 0xA3, 0xB0, 0xB1, 0xB2, 0xB3]

theorem test_message_word_spills :
    packP0 (defaults 0 0 0 0) ⟨3, 2, 0x100, 0⟩ = 0x23110203 ∧
    packP0 (Vector.replicate 20 0) ⟨0, 0, 0x12345, 1⟩ = 0x23450000 := by decide +kernel

/-- E6 and the default inputs' words. -/
theorem test_message_of_unaligned_block :
    (buildMessage (defaults 5 7 3 0) (coordOf (defaults 5 7 3 0) 0 0))[0] = 0x0403020120100102 ∧
    (buildMessage (defaults 5 7 3 0) (coordOf (defaults 5 7 3 0) 0 0))[4] = 0x000000B3000000B2 := by decide +kernel

theorem test_result_lanes :
    encodeP ⟨0, 0, 0xFF, 0xFF⟩ = 0 ∧ encodeP ⟨0x123, 0x45, 0x1FF, 0xFFFFFFFF⟩ = 0x45230000 := by decide +kernel

/-! ### Commands, status and errors: V-K1 to V-K15 -/

theorem test_k1_nop : flags (wr 0x000 0x01 (idle [])) = some (0x02, 0x00, false) := by decide +kernel
theorem test_k2_nop_irq : flags (wr 0x000 0x05 (idle [])) = some (0x02, 0x04, true) := by decide +kernel

/-- A machine that an operation with an interrupt has left. -/
def completed : State := { State.reset with status := ⟨true, true, true, 0, true⟩, ctrl := ⟨true, false, 0, 0⟩ }

theorem test_k4_irq_disabled : flags (wr 0x000 0x00 completed) = some (0x10E, 0x00, false) := by decide +kernel
theorem test_k5_illegal7 : flags (wr 0x000 0x71 (idle [])) = some (0x22, 0x70, false) := by decide +kernel
theorem test_illegal8F_keeps_found : flags (wr 0x000 0xF1 completed) = some (0x12E, 0xF0, false) := by decide +kernel

/-- V-K7, V-K8: COUT is ADD64's and FOUND is SEARCH's. -/
theorem test_k7_rotr64_keeps_cout : flags (wr 0x000 0x61 completed) = some (0x10E, 0x60, false) := by decide +kernel
theorem test_k8_add64_keeps_found : flags (wr 0x000 0x51 completed) = some (0x106, 0x50, false) := by decide +kernel
theorem test_k9_search_refused : flags (wr 0x000 0x41 (idle [])) = some (0x12, 0x40, false) := by decide +kernel
theorem test_k10_busy_write_dropped :
    (wr 0x014 5 (busy .search [])).map (fun t => (readParam t.params .offsetX, statusWord t)) = some (0, 0x101) := by
  decide +kernel
theorem test_k11_busy_start_dropped : flags (wr 0x000 0x11 (busy .search [])) = some (0x101, 0x00, false) := by decide +kernel
theorem test_k12_busy_id_ignored : flags (wr 0x07C 0 (busy .search [])) = some (0x01, 0x00, false) := by decide +kernel
theorem test_k13_busy_srst : flags (wr 0x000 0x02 (busy .search [])) = some (0x00, 0x00, false) := by decide +kernel
theorem test_k14_status_cleared : flags (wr 0x004 0x102 completed) = some (0x0C, 0x04, false) := by decide +kernel
theorem test_k15_status_kept : flags (wr 0x004 0xFFFFFEFD completed) = some (0x10E, 0x04, true) := by decide +kernel

/-! ### The window: V-B1 to V-B7 -/

theorem test_b1_id : rd 0x07C (idle []) = some (.readOk 0x4E504F57) := by decide +kernel
theorem test_b3_reserved : (wr 0x0FC 0xFFFFFFFF (idle [])).map (fun t => (statusWord t, rd 0x0FC t)) = some (0, some (.readOk 0)) := by
  decide +kernel
theorem test_b5_wrong_size :
    (after (idle [.access (.write 0x014 2 5)])).map (fun t => (t.resp, readParam t.params .offsetX)) = some (some .writeError, 0) := by
  decide +kernel
theorem test_b6_mixSel : (wr 0x008 0xFFFFFFFF (idle [])).map (fun t => rd 0x008 t) = some (some (.readOk 0x00FFFFFF)) := by
  decide +kernel
theorem test_b7_state3 :
    ((wr 0x118 0x11111111 (idle [])).bind (wr 0x11C 0x22222222)).map (fun t => t.S[3]) = some 0x2222222211111111 := by
  decide +kernel

/-- R42 at the ends of each range: which offsets set WR_IGN when written while BUSY. -/
theorem test_busy_write_ranges :
    [0x000, 0x004, 0x008, 0x00C, 0x010, 0x014, 0x070, 0x074, 0x07C, 0x080, 0x0FC, 0x100, 0x17C, 0x180, 0x1FC].map
        (fun off => (wr off 0 (busy .search [])).map (·.status.wrIgn)) =
      [true, false, true, false, false, true, true, false, false, false, false, true, true, true, true].map some := by
  decide +kernel

/-- R41 at the ends of each range: which reads are draws while BUSY (the counter tells). -/
theorem test_busy_read_ranges :
    [0x000, 0x008, 0x00C, 0x010, 0x014, 0x070, 0x074, 0x078, 0x07C, 0x0FC, 0x100, 0x17C, 0x180, 0x1FC].map
        (fun off => (after (busy .search [.access (.read off 4)])).map (·.draws)) =
      [0, 0, 1, 1, 0, 0, 1, 1, 0, 0, 1, 1, 1, 1].map some := by
  decide +kernel

/-! ### Placing a command word -/

theorem test_withFetchWord_add64 :
    (after (({ State.reset with aluA := 7, aluB := 8 }).withFetchWord 32 0x59)).map (fun t => (t.aluR, statusWord t)) =
      some (0x10, 0x02) := by decide +kernel

/-! ### Host programs (R61 to R63) -/

/-- The word of `MIX 0,4,8,12,0,1` (V-M1). -/
theorem test_mix_line : mixStmts 0 4 8 12 0 1 = some [.wr 0x008 0x0010C840, .wr 0x000 0x00000021] := by decide +kernel

/-! ### Witnesses: the hypotheses of each statement, met together -/

theorem test_witness_O1_encoding : (Instr.illegal8F 0xF true false 0x3F).wf = true ∧ Instr.srst.wf = true := by decide

theorem test_witness_O3_cases :
    (let w : Word32 := 0x00000043; w.getLsbD 1 = true) ∧
    (let w : Word32 := 0x000000F0; w.getLsbD 1 = false ∧ w.getLsbD 0 = false) ∧
    (let w : Word32 := 0x00003F61; w.getLsbD 1 = false ∧ w.getLsbD 0 = true ∧ w.getLsbD 2 = false ∧ w.getLsbD 3 = false ∧
      w.extractLsb' 8 6 = 0x3F ∧ w.extractLsb' 4 4 = 0x6) := by decide

/-- The amounts where the clauses meet, and the largest indices. -/
theorem test_witness_O5_O6_lines :
    (assemble (.rotr64 63 true)).isSome = true ∧ assemble (.rotr64 64 true) = none ∧
    mixStmts 15 15 15 15 15 15 = some [.wr 0x008 0x00FFFFFF, .wr 0x000 0x00000021] := by decide +kernel

theorem test_witness_O8_command : ∃ (s : State) (w : Word32) (rest : List Input), s.inputs = .access (.write 0x000 4 w) :: rest ∧ rest ≠ [] :=
  ⟨busy .mix [.access (.write 0x000 4 0x51), .core 1], 0x51, [.core 1], rfl, by decide⟩

theorem test_witness_O9_offsets :
    Reg.offset (.msg 15 .hi) = some 0x1FC ∧ Reg.ofOffset 0x1FC ≠ .reserved ∧
    Reg.ofOffset 0x07C ≠ .reserved ∧ Reg.ofOffset 0x080 = .reserved ∧ Reg.ofOffset 0x0FC = .reserved ∧
    Reg.ofOffset 0x100 ≠ .reserved := by decide

/-- Idle at the ends of the window, and busy at the ends of each range that still answers. -/
theorem test_witness_O11_reads :
    (∀ off ∈ [0x000, 0x00C, 0x078, 0x1FC], (idle [.access (.read off 4)]).inputs = .access (.read off 4) :: [] ∧
      off < 0x200 ∧ off % 4 = 0 ∧ (idle [.access (.read off 4)]).busy = false) ∧
    (∀ off ∈ [0x000, 0x008, 0x014, 0x070, 0x07C, 0x0FC],
      (busy .search [.access (.read off 4)]).inputs = .access (.read off 4) :: [] ∧ off < 0x200 ∧ off % 4 = 0 ∧
      (off ≤ 0x008 ∨ (0x014 ≤ off ∧ off ≤ 0x070) ∨ (0x07C ≤ off ∧ off ≤ 0x0FC))) := by decide

theorem test_witness_O12_draws :
    ∀ off ∈ [0x00C, 0x010, 0x074, 0x078, 0x100, 0x1FC],
      (busy .search [.access (.read off 4)]).inputs = .access (.read off 4) :: [] ∧ off < 0x200 ∧ off % 4 = 0 ∧
      (busy .search [.access (.read off 4)]).busy = true ∧
      (off = 0x00C ∨ off = 0x010 ∨ off = 0x074 ∨ off = 0x078 ∨ 0x100 ≤ off) := by decide

theorem test_witness_O13_writes :
    ∀ off ∈ [0x008, 0x014, 0x070, 0x100, 0x1FC],
      (idle [.access (.write off 4 0xFFFFFFFF)]).inputs = .access (.write off 4 0xFFFFFFFF) :: [] ∧ off < 0x200 ∧ off % 4 = 0 ∧
      (off = 0x008 ∨ (0x014 ≤ off ∧ off ≤ 0x070) ∨ 0x100 ≤ off) ∧
      (idle [.access (.write off 4 0xFFFFFFFF)]).busy = false := by decide

theorem test_witness_O14_readOnly :
    ∀ off ∈ [0x00C, 0x010, 0x074, 0x07C, 0x080, 0x0FC],
      (busy .mix [.access (.write off 4 1)]).inputs = .access (.write off 4 1) :: [] ∧ off % 4 = 0 ∧
      (off = 0x00C ∨ off = 0x010 ∨ (0x074 ≤ off ∧ off ≤ 0x0FC)) := by decide

/-- A write at the ends of each range, and a CTRL write with SRST and without. -/
theorem test_witness_O15_busyWrites :
    ∀ a ∈ [(0x000, 0x2), (0x000, 0x1), (0x004, 0x102), (0x008, 0), (0x00C, 0), (0x014, 0), (0x070, 0), (0x0FC, 0), (0x100, 0), (0x1FC, 0)],
      (busy .compress [.access (.write a.1 4 (BitVec.ofNat 32 a.2))]).inputs =
        .access (.write a.1 4 (BitVec.ofNat 32 a.2)) :: [] ∧
      a.1 < 0x200 ∧ a.1 % 4 = 0 ∧ (busy .compress [.access (.write a.1 4 (BitVec.ofNat 32 a.2))]).busy = true := by decide

theorem test_witness_O16_status : ∃ (s : State) (v : Word32) (rest : List Input), s.inputs = .access (.write 0x004 4 v) :: rest ∧ v.getLsbD 1 = true :=
  ⟨idle [.access (.write 0x004 4 0x102)], 0x102, [], rfl, by decide⟩

theorem test_witness_O17_busError :
    ∀ a ∈ [(0x002, 4), (0x1FF, 4), (0x000, 2), (0x1FC, 8)],
      a.1 < 0x200 ∧ (a.2 ≠ 4 ∨ a.1 % 4 ≠ 0) ∧
      (idle [.access (.read a.1 a.2)]).inputs = .access (.read a.1 a.2) :: [] ∧
      (idle [.access (.write a.1 a.2 5)]).inputs = .access (.write a.1 a.2 5) :: [] := by decide

theorem test_witness_O18_outside : ∃ (s : State) (a : Access) (rest : List Input), s.inputs = .access a :: rest ∧ 0x200 ≤ a.addr :=
  ⟨idle [.access (.read 0x200 4)], .read 0x200 4, [], rfl, by decide⟩

theorem test_witness_O20_waits : (idle []).busy = false ∧ (idle []).inputs = [] := by decide

theorem test_witness_O22_reset : ∃ (s : State) (rest : List Input), s.inputs = .reset :: rest ∧ s.busy = true :=
  ⟨busy .search [.reset], [], rfl, rfl⟩

theorem test_witness_O23_dropped : Instr.nop true true 0 ≠ .srst ∧ (busy .search []).busy = true := by decide

/-- The hypotheses of O25 to O30, O36 and O37 (BLOCK_SIZE is 0). -/
theorem test_witness_O25_to_O37_idle :
    (idle []).busy = false ∧ (idle []).inputs = [] ∧ readParam (idle []).params .blockSize = 0 := by decide

/-- An idle machine with a block to search. -/
def ready (x y bs d : Word32) : State := { State.reset with params := defaults x y bs d }

/-- The hypotheses of O31 to O34, at BLOCK_SIZE 1 and the largest, with the largest DIFFICULTY. -/
theorem test_witness_O31_to_O34_search :
    (ready 0 0 1 0xFFFFFFFF).busy = false ∧ (ready 0 0 1 0xFFFFFFFF).inputs = [] ∧
    readParam (ready 0 0 1 0xFFFFFFFF).params .blockSize ≠ 0 ∧
    readParam (ready 0 0 0xFFFFFFFF 0xFFFFFFFF).params .blockSize ≠ 0 ∧
    readParam (ready 0 0 1 0xFFFFFFFF).params .difficulty = 0xFFFFFFFF ∧
    (0 : Word32) ≤ readParam (ready 0 0 1 0xFFFFFFFF).params .difficulty :=
  ⟨rfl, rfl, by decide, by decide, rfl, by decide⟩

/-- The two machines of O33 may differ outside the parameters. -/
theorem test_witness_O33_two_machines :
    (ready 0 0 1 0).params = { ready 0 0 1 0 with aluA := 1 }.params ∧ ready 0 0 1 0 ≠ { ready 0 0 1 0 with aluA := 1 } :=
  ⟨rfl, fun h => absurd (congrArg State.aluA h) (by decide)⟩

theorem test_witness_O35_visits :
    (4 : Word32) ≠ 0 ∧ 15 < (4 : Word32).toNat * (4 : Word32).toNat ∧ visitXX 4 15 = 3 ∧ visitYY 4 15 = 3 := by decide

theorem test_witness_O38_O39_start :
    (idle [.core 1]).busy = false ∧ (idle [.core 1]).inputs ≠ [] ∧ (0x8#4).getLsbD 3 = true ∧ (0xF#4).getLsbD 3 = true := by decide

theorem test_witness_O42_O45_O46_bounds :
    63 < 64 ∧ ((0 : Fin 8).val < 4 ↔ (3 : Fin 8).val < 4) ∧ ((4 : Fin 8).val < 4 ↔ (7 : Fin 8).val < 4) ∧
    5 ≤ (5 : Fin 16).val ∧ 5 ≤ (15 : Fin 16).val := by decide

/-- V-S5, and the coordinates of V-S4. -/
theorem test_witness_O48_O49_coordinates :
    readParam (defaults 0xFF00 0xFF00 256 0) .blockSize = 256 ∧ readParam (defaults 0xFF00 0xFF00 256 0) .offsetX = 0xFF00 ∧
    readParam (defaults 0xFF00 0xFF00 256 0) .offsetY = 0xFF00 ∧ readParam (defaults 5 7 3 0) .blockSize ≠ 0 ∧
    coordOf (defaults 5 7 3 0) 0 0 = ⟨2, 1, 1, 2⟩ := by decide +kernel

/-- The ends of i's range and of k's, and the last statement. -/
theorem test_witness_O50_positions :
    (⟨0, 0, .rounds, 0, 0, 7⟩ : Position).atLast = false ∧ (⟨0, 0, .rounds, 10, 7, 7⟩ : Position).atLast = false ∧
    (⟨0, 0, .rounds, 11, 7, 7⟩ : Position).atLast = true ∧
    (⟨0, 0, .rounds, 10, 7, 7⟩ : Position).nextStatement = ⟨0, 0, .rounds, 11, 0, 0⟩ := by decide

theorem test_witness_O51_to_O53_idle :
    (ready 0 0 2 0).busy = false ∧ Instr.mix false false 0 ∈ [Instr.nop false false 0, .loadiv false false 0, .mix false false 0,
      .add64 false false 0, .rotr64 false false 0] := by decide +kernel

/-- A step that leaves the operation running, and the two ways one ends: the last statement of a COMPRESS, a refused SEARCH. -/
theorem test_witness_O54_completions :
    (coreStep (busy .compress [])).busy = true ∧
    (coreStep { busy .compress [] with pos := ⟨0, 0, .load, 11, 7, 7⟩ }).busy = false ∧
    (coreStep (busy .search [])).busy = false := by decide +kernel

theorem test_witness_O55_latched :
    ∀ o ∈ [Op.nop, .loadiv, .mix, .compress, .search, .add64, .rotr64],
      (busy o []).curOp = some ⟨o, false, 0, MixSel.zero⟩ := by decide

theorem test_witness_O56_command : ∃ t, exec (.add64 false true 0) (idle []) = .next t ∧ Instr.add64 false true 0 ≠ .srst :=
  ⟨_, rfl, by decide⟩

/-- A search under way in a block of one meets the invariant of O58, and a step goes on from it. -/
theorem test_witness_O58_search :
    ({ ready 0 0 1 0 with curOp := some ⟨.search, false, 0, MixSel.zero⟩ } : State).Inv ∧
    ∃ t, step { ready 0 0 1 0 with curOp := some ⟨.search, false, 0, MixSel.zero⟩ } = .next t := by
  refine ⟨⟨fun _ => ⟨rfl, rfl⟩, Nat.zero_le 2, fun l h _ => ?_⟩, _, rfl⟩
  cases h
  exact ⟨fun _ => ⟨by decide, by decide⟩, rfl⟩

theorem test_witness_O59_safe :
    (busy .search [.access (.read 0x1FC 4), .access (.write 0x003 1 0), .core 5, .reset]).safe = true := by decide

/-- A host at a branch that reads STATUS.BUSY. -/
def atBranch (v : Word32) : HostSys :=
  { prog := [.label "poll", .rd 0x004 "st", .bne "st" 0x1 0x0 "poll", .wr 0x002 1], pc := 2, vars := [("st", v)], core := State.reset }

/-- O60's hypotheses; a branch taken, one not taken, and the fault of a misaligned write. -/
theorem test_witness_O60_host :
    (atBranch 1).prog[(atBranch 1).pc]? = some (.bne "st" 0x1 0x0 "poll") ∧ lookupVar (atBranch 1).vars "st" = some 1 ∧
    (atBranch 1).prog.idxOf? (.label "poll") = some 0 ∧ hostTurn (atBranch 1) = .runs { atBranch 1 with pc := 0 } ∧
    hostTurn (atBranch 2) = .runs { atBranch 2 with pc := 3 } ∧
    hostTurn { atBranch 2 with pc := 3 } = .busErrorAt 3 ∧
    hostTurn { atBranch 2 with prog := [.rd 0x1FF "x"], pc := 0 } = .busErrorAt 0 := by decide +kernel

/-- A host that starts a NOP and reads STATUS, and what it reads under a schedule (R111: either order). -/
def polled (schedule : List Bool) : Option Word32 :=
  match runHost schedule { prog := [.wr 0x000 0x01, .rd 0x004 "st"], pc := 0, vars := [], core := State.reset } with
  | .runs h => lookupVar h.vars "st"
  | _ => none

/-- STATUS 0x01 (BUSY) when the access comes first, 0x02 (DONE) when the completion does. -/
theorem test_host_sees_either_order : polled [true, true] = some 0x01 ∧ polled [true, false, true] = some 0x02 := by decide +kernel

/-- O60's third clause: a host about to write a START. -/
theorem test_witness_O60_start :
    (idle []).busy = false ∧ (0x41 : Word32).getLsbD 1 = false ∧ (0x41 : Word32).getLsbD 0 = true ∧
    (0x61 : Word32).extractLsb' 4 4 < 7 ∧
    ({ atBranch 0 with prog := [.wr 0x000 0x61], pc := 0 } : HostSys).prog[0]? = some (.wr 0x000 0x61) := by decide +kernel

/-! ### The long evaluations, last: V-C1, V-C4, V-S1, V-S4 -/

/-- The candidate schedule of 93_implementation_defined.md G3 with rows 0 for every round: the second set of V-C4. -/
def straight : Params := ⟨fun _ => 0, fun _ j => BitVec.ofNat 5 (2 * j.val), 0⟩

theorem test_compress_param_free :
    (compressFile straight zeros counted)[0] = 0xF8E902A9E2A83C38 ∧ (compressFile straight zeros counted)[15] = 0x0FDF9DF413FE44D2 := by
  decide +kernel

theorem test_compress_selects_by_schedule :
    (compressFile straight (zeros.set 0 1) zeros)[0] = 0x90CA4324183AC8AB ∧
    (compressFile straight (zeros.set 0 1) zeros)[15] = 0xF9E4ABE447571B69 := by
  decide +kernel

/-! SEARCH with the tables of 93_implementation_defined.md G2 to G4 -/

/-- G2. -/
def candidateIv : List Word64 :=
  [0x6A09E667F2BDC900, 0xBB67AE8584CAA73B, 0x3C6EF372FE94F82B, 0xA54FF53A5F1D36F1] ++
  [0x510E527FADE682D1, 0x9B05688C2B3E6C1F, 0x1F83D9ABFB41BD6B, 0x5BE0CD19137E2179] ++
  [0x6A09E667F3BCC908, 0xBB67AE8584CAA73B, 0x3C6EF372FE94F82B, 0xA54FF53A5F1D36F1] ++
  [0x510E527FADE682F9, 0x9B05688C2B3E6C1F, 0xE07C265404BE4294, 0x5BE0CD19137E2179]

/-- G3: each row packed as sixteen hexadecimal digits, entry j / 2 at digit j from the left. -/
def candidateRow : Fin 12 → Word64
  | 0 => 0x0123456789ABCDEF
  | 1 => 0xEA489FD61C02B753
  | 2 => 0xB8C052FDAE367194
  | 3 => 0x7931DCBE265A40F8
  | 4 => 0x905724AFE1BC683D
  | 5 => 0x2C6A0B834D75FE19
  | 6 => 0xC51FED4A0763928B
  | 7 => 0xDB7EC13950F4862A
  | 8 => 0x6FE9B308C2D714A5
  | 9 => 0xA2847615FB9E3CD0
  | 10 => 0x0123456789ABCDEF
  | 11 => 0xEA489FD61C02B753

/-- P_GK. -/
def candidate : Params where
  ivTable i := candidateIv.getD i.val 0
  sigmaLut r j := (candidateRow r).extractLsb' (60 - 4 * j.val) 4 ++ 0#1
  checkConst := 0xF2BDC900

/-- V-S4: a success at the first coordinate of an unaligned block. -/
theorem test_search_unaligned :
    let t := ruleSearch candidate { State.reset with params := defaults 5 7 3 0 }
    t.result = 0x01020302 ∧ statusWord t = 0x06 ∧ t.check = 0xC4AC6AE4 := by decide +kernel

/-- V-S1: all four coordinates fail, and CHECK is the last one's. -/
theorem test_search_exhausted :
    let t := ruleSearch candidate { State.reset with params := defaults 0 0 2 0xFFFFFFFF }
    t.result = 0 ∧ statusWord t = 0x02 ∧ t.check = 0x0D741473 ∧ t.M[0] = 0x0403020122110101 := by decide +kernel

end Sys2Proof.Tests
end

section
/-! PROOF. Frames: what an operation's steps, the whole operation and a command word leave unchanged (O55, O56). -/

namespace Sys2Proof.Machine

/-! ### The frame of an operation -/

/-- What no operation but its writer changes (10_state.md R18, R20, R22, R24 to R26): the frame of operation `o` from `s` to
`t`, whether `t` is one step of the core further, a whole operation, or the answer to a command word. -/
structure OpFrame (o : Op) (s t : State) : Prop where
  params : t.params = s.params
  mixSel : t.mixSel = s.mixSel
  aluA : t.aluA = s.aluA
  aluB : t.aluB = s.aluB
  inputs : t.inputs = s.inputs
  resp : t.resp = s.resp
  draws : t.draws = s.draws
  result : o ≠ .search → t.result = s.result
  check : o ≠ .search → t.check = s.check
  found : o ≠ .search → t.status.found = s.status.found
  M : o ≠ .search → t.M = s.M
  cout : o ≠ .add64 → t.status.cout = s.status.cout
  aluR : o ≠ .add64 → o ≠ .rotr64 → t.aluR = s.aluR
  S : o = .nop ∨ o = .add64 ∨ o = .rotr64 → t.S = s.S

/-- The frame of what the core itself does for operation `o`, once START is accepted: CTRL, WR_IGN, and the position of an
operation that has none stay too (R21, R22, R31, R42). -/
structure RunFrame (o : Op) (s t : State) : Prop extends OpFrame o s t where
  ctrl : t.ctrl = s.ctrl
  wrIgn : t.status.wrIgn = s.status.wrIgn
  pos : o ≠ .compress → o ≠ .search → t.pos = s.pos

theorem OpFrame.trans {o : Op} {s t u : State} (h : OpFrame o s t) (k : OpFrame o t u) : OpFrame o s u where
  params := k.params.trans h.params
  mixSel := k.mixSel.trans h.mixSel
  aluA := k.aluA.trans h.aluA
  aluB := k.aluB.trans h.aluB
  inputs := k.inputs.trans h.inputs
  resp := k.resp.trans h.resp
  draws := k.draws.trans h.draws
  result ho := (k.result ho).trans (h.result ho)
  check ho := (k.check ho).trans (h.check ho)
  found ho := (k.found ho).trans (h.found ho)
  M ho := (k.M ho).trans (h.M ho)
  cout ho := (k.cout ho).trans (h.cout ho)
  aluR ha hr := (k.aluR ha hr).trans (h.aluR ha hr)
  S ho := (k.S ho).trans (h.S ho)

theorem RunFrame.trans {o : Op} {s t u : State} (h : RunFrame o s t) (k : RunFrame o t u) : RunFrame o s u where
  toOpFrame := h.toOpFrame.trans k.toOpFrame
  ctrl := k.ctrl.trans h.ctrl
  wrIgn := k.wrIgn.trans h.wrIgn
  pos hc hs := (k.pos hc hs).trans (h.pos hc hs)

/-! Each write of the core, within its operation's frame -/

theorem complete_runFrame (o : Op) (e : ErrCode) (s : State) : RunFrame o s (complete e s) :=
  ⟨by constructor <;> simp, rfl, rfl, by simp⟩

theorem writeAdd64_runFrame (l : Latch) (s : State) : RunFrame .add64 s (writeAdd64 l s) :=
  ⟨by constructor <;> simp, rfl, rfl, by simp⟩

theorem writeRotr64_runFrame (l : Latch) (s : State) : RunFrame .rotr64 s (writeRotr64 l s) :=
  ⟨by constructor <;> simp, rfl, rfl, by simp⟩

theorem writeLoadiv_runFrame (p : Params) (s : State) : RunFrame .loadiv s (writeLoadiv p s) :=
  ⟨by constructor <;> simp, rfl, rfl, by simp⟩

theorem writeMix_runFrame (l : Latch) (s : State) : RunFrame .mix s (writeMix l s) :=
  ⟨by constructor <;> simp, rfl, rfl, by simp⟩

theorem writeCompress_runFrame (p : Params) (s : State) : RunFrame .compress s (writeCompress p s) :=
  ⟨by constructor <;> simp, rfl, rfl, by simp⟩

/-- One statement of a compression writes S alone, which COMPRESS and SEARCH may. -/
theorem statementAt_runFrame {o : Op} (ho : o = .compress ∨ o = .search) (p : Params) (s : State) :
    RunFrame o s (statementAt p s) := by
  refine ⟨?_, rfl, rfl, fun _ _ => rfl⟩
  rcases ho with rfl | rfl <;> constructor <;> simp

/-- The position may be written by the two operations that have one (R31). -/
theorem setPos_runFrame {o : Op} (ho : o = .compress ∨ o = .search) (q : Position) (s : State) :
    RunFrame o s { s with pos := q } := by
  rcases ho with rfl | rfl <;> exact ⟨by constructor <;> simp, rfl, rfl, by simp⟩

/-- The registers only SEARCH writes: S, M, CHECK, RESULT and FOUND may take any value within its frame. -/
theorem searchWrites_runFrame (s : State) (S M : WordFile) (check result : Word32) (found : Bool) (q : Position) :
    RunFrame .search s
      { s with S := S, M := M, check := check, result := result, status := { s.status with found := found }, pos := q } :=
  ⟨by constructor <;> simp, rfl, rfl, by simp⟩

theorem reportFound_runFrame (x y : Word32) (s : State) : RunFrame .search s (reportFound x y s) :=
  searchWrites_runFrame s s.S s.M s.check _ true s.pos

theorem reportNone_runFrame (s : State) : RunFrame .search s (reportNone s) :=
  searchWrites_runFrame s s.S s.M s.check 0 s.status.found s.pos

theorem visit_runFrame (p : Params) (xx yy : Word32) (s : State) : RunFrame .search s (visit p xx yy s) :=
  searchWrites_runFrame s _ _ _ s.result s.status.found _

/-! Each operation, whole and step by step, within its frame -/

theorem ruleNop_runFrame (s : State) : RunFrame .nop s (ruleNop s) := complete_runFrame .nop .ok s

theorem ruleAdd64_runFrame (l : Latch) (s : State) : RunFrame .add64 s (ruleAdd64 l s) :=
  (writeAdd64_runFrame l s).trans (complete_runFrame ..)

theorem ruleRotr64_runFrame (l : Latch) (s : State) : RunFrame .rotr64 s (ruleRotr64 l s) :=
  (writeRotr64_runFrame l s).trans (complete_runFrame ..)

theorem ruleLoadiv_runFrame (p : Params) (s : State) : RunFrame .loadiv s (ruleLoadiv p s) :=
  (writeLoadiv_runFrame p s).trans (complete_runFrame ..)

theorem ruleMix_runFrame (l : Latch) (s : State) : RunFrame .mix s (ruleMix l s) :=
  (writeMix_runFrame l s).trans (complete_runFrame ..)

theorem ruleCompress_runFrame (p : Params) (s : State) : RunFrame .compress s (ruleCompress p s) :=
  (writeCompress_runFrame p s).trans (complete_runFrame ..)

theorem scan_runFrame (p : Params) (fuel n : Nat) (s : State) : RunFrame .search s (scan p fuel n s) := by
  induction fuel generalizing n s with
  | zero => exact reportNone_runFrame s
  | succ fuel ih =>
    rw [scan_succ]
    split
    · exact (visit_runFrame ..).trans (reportFound_runFrame ..)
    · exact (visit_runFrame ..).trans (ih ..)

theorem ruleSearch_runFrame (p : Params) (s : State) : RunFrame .search s (ruleSearch p s) := by
  dsimp only [ruleSearch]
  split
  · exact complete_runFrame .search .invalidArg s
  · exact (scan_runFrame ..).trans (complete_runFrame ..)

theorem compressStep_runFrame (p : Params) (s : State) : RunFrame .compress s (compressStep p s) := by
  have hstatement := statementAt_runFrame (.inl rfl) p s
  unfold compressStep
  split
  · exact hstatement.trans (complete_runFrame ..)
  · exact hstatement.trans (setPos_runFrame (.inl rfl) _ _)

theorem searchAdvance_runFrame (s : State) : RunFrame .search s (searchAdvance s) := by
  dsimp only [searchAdvance]
  split
  · exact setPos_runFrame (.inr rfl) _ s
  · split
    · exact setPos_runFrame (.inr rfl) _ s
    · exact (reportNone_runFrame s).trans (complete_runFrame ..)

theorem searchTest_runFrame (p : Params) (s : State) : RunFrame .search s (searchTest p s) := by
  have hcheck : RunFrame .search s { s with check := checkValue p s.S } :=
    searchWrites_runFrame s s.S s.M _ s.result s.status.found s.pos
  dsimp only [searchTest]
  split
  · exact (hcheck.trans (reportFound_runFrame ..)).trans (complete_runFrame ..)
  · exact hcheck.trans (searchAdvance_runFrame _)

theorem searchStep_runFrame (p : Params) (s : State) : RunFrame .search s (searchStep p s) := by
  unfold searchStep
  split
  · exact complete_runFrame .search .invalidArg s
  · cases s.pos.phase with
    | load => exact searchWrites_runFrame s _ s.M s.check s.result s.status.found _
    | build => exact searchWrites_runFrame s s.S _ s.check s.result s.status.found _
    | rounds =>
      have hstatement := statementAt_runFrame (.inr rfl) p s
      dsimp only
      split <;> exact hstatement.trans (setPos_runFrame (.inr rfl) _ _)
    | test => exact searchTest_runFrame p s

/-- Every step of the core stays within the frame of the operation that runs. -/
theorem coreStep_runFrame (s : State) (l : Latch) (h : s.curOp = some l) : RunFrame l.op s (coreStep s) := by
  rw [coreStep_running s l h]
  obtain ⟨o, cin, rot, mixSel⟩ := l
  cases o with
  | nop => exact ruleNop_runFrame s
  | loadiv => exact ruleLoadiv_runFrame _ s
  | mix => exact ruleMix_runFrame _ s
  | compress => exact compressStep_runFrame _ s
  | search => exact searchStep_runFrame _ s
  | add64 => exact ruleAdd64_runFrame _ s
  | rotr64 => exact ruleRotr64_runFrame _ s

/-- Settles O55: every step of the core keeps its operation's frame. -/
theorem coreStepFrame : Obligations.CoreStepFrame := by
  intro s l hl
  have h := coreStep_runFrame s l hl
  exact ⟨⟨h.params, h.mixSel, h.aluA, h.aluB, h.ctrl, h.wrIgn, h.inputs, h.resp, h.draws⟩,
    fun ho => ⟨h.result ho, h.check ho, h.found ho, h.M ho⟩, h.cout, h.aluR, h.S, h.pos⟩

/-! ### The frame of a command word -/

theorem dropWrite_opFrame (o : Op) (s : State) : OpFrame o s (dropWrite s) := by constructor <;> simp

theorem setCtrl_opFrame (o : Op) (q c : Bool) (code : BitVec 4) (n : BitVec 6) (s : State) :
    OpFrame o s (setCtrl q c code n s) := by constructor <;> simp

/-- START clears FOUND for SEARCH only (43_control.md R99). -/
theorem acceptStart_opFrame (o : Op) (s : State) : OpFrame o s (acceptStart o s) := by
  constructor <;> simp +contextual

/-- A command word that starts `o` stays in `o`'s frame: dropped, left running, or performed whole. -/
theorem startOp_opFrame {o : Op} {rule : Latch → State → State} (hrule : ∀ l u, RunFrame o u (rule l u))
    {q c : Bool} {n : BitVec 6} {s t : State} (h : startOp o q c n rule s = .next t) : OpFrame o s t := by
  have hstart : OpFrame o s (acceptStart o (setCtrl q c o.code n s)) :=
    (setCtrl_opFrame ..).trans (acceptStart_opFrame ..)
  rcases startOp_cases o q c n rule s with ⟨-, e⟩ | ⟨-, -, e⟩ | ⟨-, -, e⟩ <;>
    cases e.symm.trans h
  · exact dropWrite_opFrame o s
  · exact hstart.trans (hrule ..).toOpFrame
  · exact hstart

/-- A reserved code and a CTRL write without a strobe change no more than NOP does. -/
theorem startReserved_opFrame {q c : Bool} {code : BitVec 4} {n : BitVec 6} {s t : State}
    (h : startReserved q c code n s = .next t) : OpFrame .nop s t := by
  rcases hb : s.busy with _ | _
  · cases (startReserved_idle q c code n s hb).symm.trans h
    constructor <;> simp
  · cases (startReserved_busy q c code n s hb).symm.trans h
    exact dropWrite_opFrame .nop s

theorem execCtrlset_opFrame {q c : Bool} {code : BitVec 4} {n : BitVec 6} {s t : State}
    (h : execCtrlset q c code n s = .next t) : OpFrame .nop s t := by
  unfold execCtrlset at h
  split at h <;> cases h
  · exact dropWrite_opFrame .nop s
  · exact setCtrl_opFrame ..

/-- The operation whose frame a command word keeps: the one it starts, or NOP where it starts none. SRST keeps no frame;
`exec_opFrame` leaves it out. -/
def frameOp : Instr → Op
  | .nop .. | .illegal7 .. | .illegal8F .. | .ctrlset .. | .srst => .nop
  | .loadiv .. => .loadiv
  | .mix .. => .mix
  | .compress .. => .compress
  | .search .. => .search
  | .add64 .. => .add64
  | .rotr64 .. => .rotr64

theorem exec_opFrame {i : Instr} {s t : State} (h : exec i s = .next t) (hi : i ≠ .srst) : OpFrame (frameOp i) s t := by
  cases i with
  | nop => exact startOp_opFrame (fun _ => ruleNop_runFrame) h
  | loadiv => exact startOp_opFrame (fun _ => ruleLoadiv_runFrame _) h
  | mix => exact startOp_opFrame ruleMix_runFrame h
  | compress => exact startOp_opFrame (fun _ => ruleCompress_runFrame _) h
  | search => exact startOp_opFrame (fun _ => ruleSearch_runFrame _) h
  | add64 => exact startOp_opFrame ruleAdd64_runFrame h
  | rotr64 => exact startOp_opFrame ruleRotr64_runFrame h
  | illegal7 => exact startReserved_opFrame h
  | illegal8F => exact startReserved_opFrame h
  | srst => exact absurd rfl hi
  | ctrlset => exact execCtrlset_opFrame h

theorem frameOp_ne_search {i : Instr} (h : ∀ q c n, i ≠ .search q c n) : frameOp i ≠ .search := by
  cases i with
  | search q c n => exact absurd rfl (h q c n)
  | _ => simp [frameOp]

theorem frameOp_ne_add64 {i : Instr} (h : ∀ q c n, i ≠ .add64 q c n) : frameOp i ≠ .add64 := by
  cases i with
  | add64 q c n => exact absurd rfl (h q c n)
  | _ => simp [frameOp]

theorem frameOp_ne_rotr64 {i : Instr} (h : ∀ q c n, i ≠ .rotr64 q c n) : frameOp i ≠ .rotr64 := by
  cases i with
  | rotr64 q c n => exact absurd rfl (h q c n)
  | _ => simp [frameOp]

/-- The four operations that write S are LOADIV, MIX, COMPRESS and SEARCH (R17). -/
theorem frameOp_keeps_S {i : Instr}
    (h : ∀ q c n, i ≠ .loadiv q c n ∧ i ≠ .mix q c n ∧ i ≠ .compress q c n ∧ i ≠ .search q c n) :
    frameOp i = .nop ∨ frameOp i = .add64 ∨ frameOp i = .rotr64 := by
  cases i with
  | loadiv q c n => exact absurd rfl (h q c n).1
  | mix q c n => exact absurd rfl (h q c n).2.1
  | compress q c n => exact absurd rfl (h q c n).2.2.1
  | search q c n => exact absurd rfl (h q c n).2.2.2
  | _ => simp [frameOp]

/-- Settles O56: every command word but SRST keeps the frame of the operation it starts. -/
theorem commandFrame : Obligations.CommandFrame := by
  intro i s t h hi
  have f := exec_opFrame h hi
  refine ⟨⟨f.params, f.mixSel, f.aluA, f.aluB, f.inputs, f.resp, f.draws⟩, fun hs => ?_,
    fun ha => f.cout (frameOp_ne_add64 ha), fun har => ?_, fun hS => f.S (frameOp_keeps_S hS)⟩
  · have ho := frameOp_ne_search hs
    exact ⟨f.result ho, f.check ho, f.found ho, f.M ho⟩
  · exact f.aluR (frameOp_ne_add64 fun q c n => (har q c n).1) (frameOp_ne_rotr64 fun q c n => (har q c n).2)

end Sys2Proof.Machine
end

section
/-! PROOF. The register map, the words of the window, and the writes it ignores (O9, O10, O14). -/

namespace Sys2Proof.Machine

/-! ### The register map and the words of the window (10_state.md R17 to R29) -/

/-- The aligned offsets of the window are those of its 128 words (R36, R37). -/
theorem forall_offset_of_forall_word {P : Nat → Prop} (h : ∀ w : Fin 128, P (4 * w.val)) (off : Nat) (hlt : off < 0x200)
    (hmod : off % 4 = 0) : P off := by
  have hw := h ⟨off / 4, by omega⟩
  rwa [show 4 * (off / 4) = off by omega] at hw

theorem Reg.ofOffset_param (p : Param) : Reg.ofOffset (0x014 + 4 * p.index.val) = .param p := by
  cases p <;> rfl

theorem Reg.ofOffset_state (i : Fin 16) (h : Half) : Reg.ofOffset (0x100 + 8 * i.val + h.offset) = .state i h := by
  cases h <;> revert i <;> decide

theorem Reg.ofOffset_msg (i : Fin 16) (h : Half) : Reg.ofOffset (0x180 + 8 * i.val + h.offset) = .msg i h := by
  cases h <;> revert i <;> decide

theorem Half.offset_le_and_mod (h : Half) : h.offset ≤ 4 ∧ h.offset % 4 = 0 := by cases h <;> decide

/-- A named register's offset is an aligned one of the window (R20). -/
theorem Reg.offset_lt_and_mod {r : Reg} {o : Nat} (ho : r.offset = some o) : o < 0x200 ∧ o % 4 = 0 := by
  cases r with
  | param p => cases ho; omega
  | aluA h | aluB h | aluR h | state i h | msg i h => cases ho; have := h.offset_le_and_mod; omega
  | reserved => cases ho
  | _ => cases ho; decide

/-- The map sends a register's offset back to it (R20). -/
theorem Reg.ofOffset_of_offset {r : Reg} {o : Nat} (ho : r.offset = some o) : Reg.ofOffset o = r := by
  cases r with
  | param p => cases ho; exact Reg.ofOffset_param p
  | aluA h | aluB h | aluR h => cases ho; cases h <;> rfl
  | state i h => cases ho; exact Reg.ofOffset_state i h
  | msg i h => cases ho; exact Reg.ofOffset_msg i h
  | reserved => cases ho
  | _ => cases ho; rfl

theorem Reg.offset_ofOffset (off : Nat) (hlt : off < 0x200) (hmod : off % 4 = 0) (hr : Reg.ofOffset off ≠ .reserved) :
    (Reg.ofOffset off).offset = some off := by
  revert hr
  exact forall_offset_of_forall_word
    (P := fun off => Reg.ofOffset off ≠ .reserved → (Reg.ofOffset off).offset = some off) (by decide) off hlt hmod

theorem Reg.ofOffset_eq_reserved_iff (off : Nat) (hlt : off < 0x200) (hmod : off % 4 = 0) :
    Reg.ofOffset off = .reserved ↔ 0x080 ≤ off ∧ off ≤ 0x0FC :=
  forall_offset_of_forall_word (P := fun off => Reg.ofOffset off = .reserved ↔ 0x080 ≤ off ∧ off ≤ 0x0FC)
    (by decide) off hlt hmod

/-- Settles O9: the map and the table of offsets invert each other; the table's rows are read off the map. -/
theorem registerMapIsTheTable : Obligations.RegisterMapIsTheTable := by
  refine ⟨fun r o ho => ?_, Reg.offset_ofOffset, Reg.ofOffset_eq_reserved_iff, rfl, rfl, rfl, rfl, rfl, rfl, rfl,
    fun i => ?_⟩
  · obtain ⟨hlt, hmod⟩ := Reg.offset_lt_and_mod ho
    exact ⟨hlt, hmod, Reg.ofOffset_of_offset ho⟩
  · exact ⟨Reg.ofOffset_state i .lo, (congrArg _ (Nat.add_right_comm 0x100 4 _)).trans (Reg.ofOffset_state i .hi),
      Reg.ofOffset_msg i .lo, (congrArg _ (Nat.add_right_comm 0x180 4 _)).trans (Reg.ofOffset_msg i .hi)⟩

/-- The fields of CTRL, and the bits that read 0 (R21, R103). -/
theorem ctrlWord_fields (c : Ctrl) :
    (ctrlWord c).extractLsb' 0 2 = 0 ∧ (ctrlWord c).getLsbD 2 = c.irqEn ∧ (ctrlWord c).getLsbD 3 = c.cin ∧
    (ctrlWord c).extractLsb' 4 4 = c.op ∧ (ctrlWord c).extractLsb' 8 6 = c.rot ∧ (ctrlWord c).extractLsb' 14 18 = 0 := by
  simp only [ctrlWord, BitVec.getLsbD_append, BitVec.extractLsb'_append_eq_ite]
  simp

/-- The fields of STATUS, and the bits that read 0 (R22). -/
theorem statusWord_fields (s : State) :
    (statusWord s).getLsbD 0 = s.busy ∧ (statusWord s).getLsbD 1 = s.status.done ∧
    (statusWord s).getLsbD 2 = s.status.found ∧ (statusWord s).getLsbD 3 = s.status.cout ∧
    (statusWord s).extractLsb' 4 4 = s.status.err ∧ (statusWord s).getLsbD 8 = s.status.wrIgn ∧
    (statusWord s).extractLsb' 9 23 = 0 := by
  simp only [statusWord, BitVec.getLsbD_append, BitVec.extractLsb'_append_eq_ite]
  simp

/-- The fields of MIX_SEL, and the bits that read 0 (R23). -/
theorem mixSelWord_fields (m : MixSel) :
    (mixSelWord m).extractLsb' 0 4 = m.a ∧ (mixSelWord m).extractLsb' 4 4 = m.b ∧
    (mixSelWord m).extractLsb' 8 4 = m.c ∧ (mixSelWord m).extractLsb' 12 4 = m.d ∧
    (mixSelWord m).extractLsb' 16 4 = m.mx ∧ (mixSelWord m).extractLsb' 20 4 = m.my ∧
    (mixSelWord m).extractLsb' 24 8 = 0 := by
  simp only [mixSelWord, BitVec.extractLsb'_append_eq_ite]
  simp

/-- Settles O10: the three packed words by their fields; every other word is a field of the state, or half
of one, as it is. -/
theorem windowWordsAreTheState : Obligations.WindowWordsAreTheState := fun s =>
  ⟨ctrlWord_fields s.ctrl, statusWord_fields s, mixSelWord_fields s.mixSel, rfl, rfl, rfl, rfl, fun _ => rfl,
    ⟨rfl, rfl⟩, ⟨rfl, rfl⟩, ⟨rfl, rfl⟩, fun _ => ⟨rfl, rfl, rfl, rfl⟩⟩

/-! ### Writes that are ignored (20_memory.md R40, R42) -/

/-- An aligned write that the window takes, at a register other than CTRL: a host write, answered OK (R37, R40). -/
theorem step_of_write {s : State} {off : Nat} {v : Word32} {rest : List Input}
    (hs : s.inputs = .access (.write off 4 v) :: rest) (hlt : off < 0x200) (hmod : off % 4 = 0)
    (hr : Reg.ofOffset off ≠ .ctrl) :
    step s = .next (hostWrite (Reg.ofOffset off) v { s with inputs := rest, resp := some .writeOk }) := by
  rw [step_of_access s _ rest hs,
    deliver_write off 4 v _ (decide_eq_true hlt) (decide_eq_true ⟨rfl, hmod⟩) hr]

/-- RESULT, CHECK, ALU_R, ID and the reserved offsets hold no register that a write changes (R20, R40). -/
theorem Reg.ofOffset_readOnly {off : Nat} (hmod : off % 4 = 0)
    (h : off = 0x00C ∨ off = 0x010 ∨ (0x074 ≤ off ∧ off ≤ 0x0FC)) :
    Reg.ofOffset off ≠ .ctrl ∧ Reg.ofOffset off ≠ .status ∧ (Reg.ofOffset off).plainWritable = false := by
  have hlt : off < 0x200 := by omega
  revert h
  exact forall_offset_of_forall_word
    (P := fun off => off = 0x00C ∨ off = 0x010 ∨ (0x074 ≤ off ∧ off ≤ 0x0FC) →
      Reg.ofOffset off ≠ .ctrl ∧ Reg.ofOffset off ≠ .status ∧ (Reg.ofOffset off).plainWritable = false)
    (by decide) off hlt hmod

theorem hostWrite_readOnly {r : Reg} (v : Word32) (s : State) (hr : r ≠ .status) (hw : r.plainWritable = false) :
    hostWrite r v s = s := by
  simp [hostWrite, hr, hw]

/-- Settles O14: at these offsets stands no register that a host write changes. -/
theorem readOnlyWritesAreIgnored : Obligations.ReadOnlyWritesAreIgnored := by
  intro s off v rest hs hmod hoff
  obtain ⟨hctrl, hstatus, hplain⟩ := Reg.ofOffset_readOnly hmod hoff
  rw [step_of_write hs (by omega) hmod hctrl, hostWrite_readOnly v _ hstatus hplain]

end Sys2Proof.Machine
end

section
/-! PROOF. Host accesses and the core's own steps as the host sees them: reads, writes, dropped writes, refused accesses,
and effects at completion (O11 to O13, O15, O17, O18, O23, O51, O54). -/

namespace Sys2Proof.Machine

/-! ### The registers of the window by their kinds (10_state.md R20; 20_memory.md R40, R41) -/

/-- A named register stands at its own offset and at no other (R20). -/
theorem Reg.ofOffset_eq_iff {r : Reg} {o off : Nat} (ho : r.offset = some o) (hlt : off < 0x200) (hmod : off % 4 = 0) :
    Reg.ofOffset off = r ↔ off = o := by
  constructor
  · rintro rfl
    have hr : Reg.ofOffset off ≠ .reserved := fun e => by simp [e, Reg.offset] at ho
    exact Option.some_injective _ ((Reg.offset_ofOffset off hlt hmod hr).symm.trans ho)
  · rintro rfl
    exact Reg.ofOffset_of_offset ho

theorem Reg.plainWritable_ofOffset_iff {off : Nat} (hlt : off < 0x200) (hmod : off % 4 = 0) :
    (Reg.ofOffset off).plainWritable = true ↔ off = 0x008 ∨ (0x014 ≤ off ∧ off ≤ 0x070) ∨ 0x100 ≤ off :=
  forall_offset_of_forall_word
    (P := fun off => (Reg.ofOffset off).plainWritable = true ↔ off = 0x008 ∨ (0x014 ≤ off ∧ off ≤ 0x070) ∨ 0x100 ≤ off)
    (by decide) off hlt hmod

theorem Reg.drawnWhileBusy_ofOffset_iff {off : Nat} (hlt : off < 0x200) (hmod : off % 4 = 0) :
    (Reg.ofOffset off).drawnWhileBusy = true ↔
      off = 0x00C ∨ off = 0x010 ∨ off = 0x074 ∨ off = 0x078 ∨ 0x100 ≤ off :=
  forall_offset_of_forall_word
    (P := fun off => (Reg.ofOffset off).drawnWhileBusy = true ↔
      off = 0x00C ∨ off = 0x010 ∨ off = 0x074 ∨ off = 0x078 ∨ 0x100 ≤ off)
    (by decide) off hlt hmod

/-! ### The core's effects appear at completion (20_memory.md R45; 60_exceptions.md R104, R105, R107) -/

/-- What a step of the core from `s` to `t` can be, as the host sees it: the operation runs on with its latch and STATUS as
they were, or it completes with the error code `e`. -/
def RunsOnOrCompletes (e : ErrCode) (s t : State) : Prop :=
  (t.curOp = s.curOp ∧ t.status = s.status) ∨ ∃ u : State, t = complete e u

theorem RunsOnOrCompletes.of_complete (e : ErrCode) (s u : State) : RunsOnOrCompletes e s (complete e u) := .inr ⟨u, rfl⟩

theorem compressStep_runsOnOrCompletes (p : Params) (s : State) : RunsOnOrCompletes .ok s (compressStep p s) := by
  unfold compressStep
  split
  · exact .of_complete ..
  · exact .inl ⟨rfl, rfl⟩

theorem searchAdvance_runsOnOrCompletes (s : State) : RunsOnOrCompletes .ok s (searchAdvance s) := by
  dsimp only [searchAdvance]
  split
  · exact .inl ⟨rfl, rfl⟩
  · split
    · exact .inl ⟨rfl, rfl⟩
    · exact .of_complete ..

theorem searchTest_runsOnOrCompletes (p : Params) (s : State) : RunsOnOrCompletes .ok s (searchTest p s) := by
  dsimp only [searchTest]
  split
  · exact .of_complete ..
  · exact searchAdvance_runsOnOrCompletes { s with check := checkValue p s.S }

/-- A step of SEARCH that completes does so with INVALID_ARG when BLOCK_SIZE is 0, and with OK otherwise (R89, R90, R107). -/
theorem searchStep_runsOnOrCompletes (p : Params) (s : State) :
    RunsOnOrCompletes (if readParam s.params .blockSize = 0 then .invalidArg else .ok) s (searchStep p s) := by
  unfold searchStep
  split
  · exact .of_complete ..
  · cases s.pos.phase with
    | load | build => exact .inl ⟨rfl, rfl⟩
    | rounds =>
      dsimp only
      split <;> exact .inl ⟨rfl, rfl⟩
    | test => exact searchTest_runsOnOrCompletes p s

/-- Every step of the core: the operation runs on, or it completes with OK, or with INVALID_ARG for a refused SEARCH. -/
theorem coreStep_runsOnOrCompletes (s : State) (l : Latch) (h : s.curOp = some l) :
    RunsOnOrCompletes (if l.op = .search ∧ readParam s.params .blockSize = 0 then .invalidArg else .ok) s (coreStep s) := by
  rw [coreStep_running s l h]
  obtain ⟨o, cin, rot, mixSel⟩ := l
  cases o with
  | compress => exact compressStep_runsOnOrCompletes _ s
  | search => simpa using searchStep_runsOnOrCompletes Config.params s
  | nop | loadiv | mix | add64 | rotr64 => exact .of_complete ..

/-- A read that is no draw while BUSY sees only what no step of the core writes, and STATUS with BUSY (R41). -/
theorem RunFrame.readReg_eq {o : Op} {s t : State} (f : RunFrame o s t) (hop : t.curOp = s.curOp)
    (hst : t.status = s.status) {r : Reg} (hr : r.drawnWhileBusy = false) : readReg t r = readReg s r := by
  cases r with
  | ctrl => exact congrArg ctrlWord f.ctrl
  | status => simp [readReg, statusWord, State.busy, hop, hst]
  | mixSel => exact congrArg mixSelWord f.mixSel
  | param p => exact congrArg (readParam · p) f.params
  | aluA h => exact congrArg (readHalf h) f.aluA
  | aluB h => exact congrArg (readHalf h) f.aluB
  | id | reserved => rfl
  | result | check | aluR | state | msg => simp [Reg.drawnWhileBusy] at hr

/-- Settles O54: a step runs on with latch and STATUS unchanged, and then the operation's frame keeps every other register
that the host reads; or it is a completion, which sets DONE and ERR. -/
theorem effectsAppearAtCompletion : Obligations.EffectsAppearAtCompletion := by
  intro s l hl
  have frame := coreStep_runFrame s l hl
  rcases coreStep_runsOnOrCompletes s l hl with ⟨hop, hst⟩ | ⟨u, hu⟩
  · have hbusy : (coreStep s).busy = true := busy_of_some _ l (hop.trans hl)
    exact ⟨fun _ => ⟨hop, hst, fun r hr => frame.readReg_eq hop hst hr⟩, fun h => absurd hbusy (by simp [h])⟩
  · refine ⟨fun h => absurd h (by simp [hu]), fun _ => ?_⟩
    rw [hu, complete_status]
    exact ⟨rfl, apply_ite ErrCode.code _ _ _⟩

/-! ### Reads (20_memory.md R39, R41) -/

/-- An aligned read in the window (R37, R39). -/
theorem step_of_read {s : State} {off : Nat} {rest : List Input} (hs : s.inputs = .access (.read off 4) :: rest)
    (hlt : off < 0x200) (hmod : off % 4 = 0) :
    step s = .next (hostRead (Reg.ofOffset off) { s with inputs := rest }) := by
  rw [step_of_access s _ rest hs, deliver_read off 4 _ (decide_eq_true hlt) (decide_eq_true ⟨rfl, hmod⟩)]

/-- The inputs to come and the bus's last answer are no part of a register. -/
theorem readReg_of_inputs_resp (s : State) (is : List Input) (a : Option Response) (r : Reg) :
    readReg { s with inputs := is, resp := a } r = readReg s r := by cases r <;> rfl

theorem hostRead_of_register {r : Reg} {s : State} (h : s.busy = false ∨ r.drawnWhileBusy = false) :
    hostRead r s = { s with resp := some (.readOk (readReg s r)) } := by
  rcases h with h | h <;> simp [hostRead, h]

theorem hostRead_of_draw {r : Reg} {s : State} (hb : s.busy = true) (hr : r.drawnWhileBusy = true) :
    hostRead r s = takeDraw .readOk s := by simp [hostRead, hb, hr]

/-- Settles O11: at these offsets, or when idle, a read takes the branch of `hostRead` that answers the register. -/
theorem readsAnswerTheRegister : Obligations.ReadsAnswerTheRegister := by
  intro s off rest hs hlt hmod hoff
  have hregister : s.busy = false ∨ (Reg.ofOffset off).drawnWhileBusy = false :=
    hoff.imp_right fun h => by
      rw [← Bool.not_eq_true, Reg.drawnWhileBusy_ofOffset_iff hlt hmod]
      omega
  rw [step_of_read hs hlt hmod, hostRead_of_register (s := { s with inputs := rest }) hregister,
    readReg_of_inputs_resp s rest s.resp]

/-- Settles O12: these offsets are those of the registers whose busy reads are draws. -/
theorem busyReadsAreDraws : Obligations.BusyReadsAreDraws := by
  intro s off rest hs hlt hmod hbusy hoff
  rw [step_of_read hs hlt hmod, hostRead_of_draw (s := { s with inputs := rest }) hbusy
    ((Reg.drawnWhileBusy_ofOffset_iff hlt hmod).mpr hoff)]
  rfl

/-! ### Refused accesses (20_memory.md R35, R37) -/

/-- An access in the window of another size or alignment (R37). -/
theorem step_of_misaligned {s : State} {a : Access} {rest : List Input} (hs : s.inputs = .access a :: rest)
    (hlt : a.addr < 0x200) (hbad : ¬(a.size = 4 ∧ a.addr % 4 = 0)) :
    step s = .next (busError a { s with inputs := rest }) := by
  rw [step_of_access s a rest hs, deliver_misaligned a _ (decide_eq_true hlt) (decide_eq_false hbad)]

/-- Settles O17: the ERROR response is all that such an access changes. -/
theorem busErrorChangesNoState : Obligations.BusErrorChangesNoState := by
  intro s off size v rest hlt hbad
  have hmisaligned : ¬(size = 4 ∧ off % 4 = 0) := fun ⟨hsize, hmod⟩ => hbad.elim (· hsize) (· hmod)
  exact ⟨fun hs => step_of_misaligned hs hlt hmisaligned, fun hs => step_of_misaligned hs hlt hmisaligned⟩

/-- Settles O18: `deliver` looks at the window's bound before anything else of the access. -/
theorem accessOutsideTheWindowStops : Obligations.AccessOutsideTheWindowStops := by
  intro s a rest hs haddr
  rw [step_of_access s a rest hs, deliver_outside a _ (decide_eq_false (Nat.not_lt.mpr haddr))]

/-! ### Writes of an idle core (20_memory.md R38, R40) -/

@[simp] theorem low32_join64 (hi lo : Word32) : low32 (join64 hi lo) = lo := BitVec.extractLsb'_append_eq_right

@[simp] theorem high32_join64 (hi lo : Word32) : high32 (join64 hi lo) = hi := BitVec.extractLsb'_append_eq_left

theorem readHalf_writeHalf_self (h : Half) (v : Word32) (x : Word64) : readHalf h (writeHalf h v x) = v := by
  cases h <;> simp [readHalf, writeHalf]

theorem readHalf_writeHalf_ne {h h' : Half} (hne : h' ≠ h) (v : Word32) (x : Word64) :
    readHalf h' (writeHalf h v x) = readHalf h' x := by
  cases h <;> cases h' <;> simp [readHalf, writeHalf] at hne ⊢

/-- A file with one half of one word written reads at any other half as before (R38). -/
theorem readHalf_set_writeHalf_ne (F : WordFile) (v : Word32) {i j : Fin 16} {h h' : Half} (hne : ¬(j = i ∧ h' = h)) :
    readHalf h' (F.set i (writeHalf h v F[i]))[j] = readHalf h' F[j] := by
  by_cases hij : j = i
  · subst hij
    have hh : h' ≠ h := fun e => hne ⟨rfl, e⟩
    simp [readHalf_writeHalf_ne hh]
  · have hij' : (i : Nat) ≠ j := fun e => hij (Fin.ext e.symm)
    simp [hij']

/-- MIX_SEL reads back its 24 field bits, and its reserved bits as 0 (R23): the six fields are adjacent nibbles from bit 0
up, and the mask is 24 ones. -/
theorem mixSelWord_mixSelOf (v : Word32) : mixSelWord (mixSelOf v) = v &&& 0x00FFFFFF := by
  rw [show (0x00FFFFFF : Word32) = (BitVec.allOnes 24).setWidth 32 by decide]
  refine BitVec.eq_of_getLsbD_eq fun i hi => ?_
  simp only [mixSelWord, mixSelOf, BitVec.getLsbD_append, BitVec.getLsbD_extractLsb', BitVec.getLsbD_zero,
    BitVec.getLsbD_and, BitVec.getLsbD_setWidth, BitVec.getLsbD_allOnes]
  grind

@[simp] theorem writeReg_curOp (s : State) (r : Reg) (v : Word32) : (writeReg s r v).curOp = s.curOp := by cases r <;> rfl
@[simp] theorem writeReg_pos (s : State) (r : Reg) (v : Word32) : (writeReg s r v).pos = s.pos := by cases r <;> rfl
@[simp] theorem writeReg_inputs (s : State) (r : Reg) (v : Word32) : (writeReg s r v).inputs = s.inputs := by
  cases r <;> rfl
@[simp] theorem writeReg_resp (s : State) (r : Reg) (v : Word32) : (writeReg s r v).resp = s.resp := by cases r <;> rfl
@[simp] theorem writeReg_draws (s : State) (r : Reg) (v : Word32) : (writeReg s r v).draws = s.draws := by cases r <;> rfl

/-- An RW register reads back what was written (R40). -/
theorem readReg_writeReg_self (s : State) {r : Reg} (v : Word32) (hr : r.plainWritable = true) :
    readReg (writeReg s r v) r = if r = .mixSel then v &&& 0x00FFFFFF else v := by
  cases r with
  | mixSel => exact mixSelWord_mixSelOf v
  | param p => exact readParam_writeParam_self s.params p v
  | aluA h | aluB h | state i h | msg i h => simp [readReg, writeReg, readHalf_writeHalf_self]
  | ctrl | status | result | check | aluR | id | reserved => simp [Reg.plainWritable] at hr

/-- A write to one register leaves every other register: what the two share, a parameter file, a 64-bit quantity or a file,
is written at another place (R40). -/
theorem readReg_writeReg_ne (s : State) {r r' : Reg} (v : Word32) (hne : r' ≠ r) :
    readReg (writeReg s r v) r' = readReg s r' := by
  cases r with
  | ctrl | status | result | check | aluR | id | reserved => rfl
  | mixSel =>
    cases r' with
    | mixSel => exact absurd rfl hne
    | _ => rfl
  | param p =>
    cases r' with
    | param q => exact readParam_writeParam_ne s.params p q v fun e => hne (congrArg _ e.symm)
    | _ => rfl
  | aluA h =>
    cases r' with
    | aluA h' => exact readHalf_writeHalf_ne (fun e => hne (congrArg _ e)) v s.aluA
    | _ => rfl
  | aluB h =>
    cases r' with
    | aluB h' => exact readHalf_writeHalf_ne (fun e => hne (congrArg _ e)) v s.aluB
    | _ => rfl
  | state i h =>
    cases r' with
    | state j h' => exact readHalf_set_writeHalf_ne s.S v (by simpa using hne)
    | _ => rfl
  | msg i h =>
    cases r' with
    | msg j h' => exact readHalf_set_writeHalf_ne s.M v (by simpa using hne)
    | _ => rfl

theorem Reg.ne_of_plainWritable {r : Reg} (hr : r.plainWritable = true) : r ≠ .ctrl ∧ r ≠ .status ∧ r ≠ .reserved := by
  refine ⟨?_, ?_, ?_⟩ <;> rintro rfl <;> simp [Reg.plainWritable] at hr

theorem hostWrite_idle {r : Reg} (v : Word32) {s : State} (hr : r.plainWritable = true) (hidle : s.busy = false) :
    hostWrite r v s = writeReg s r v := by
  simp [hostWrite, (Reg.ne_of_plainWritable hr).2.1, hr, hidle]

/-- Settles O13: the step is `writeReg` at the register of the offset, and another offset holds another register. -/
theorem idleWriteIsReadBack : Obligations.IdleWriteIsReadBack := by
  intro s off v rest hs hlt hmod hoff hidle
  have hplain := (Reg.plainWritable_ofOffset_iff hlt hmod).mpr hoff
  obtain ⟨hctrl, -, hreserved⟩ := Reg.ne_of_plainWritable hplain
  refine ⟨writeReg { s with inputs := rest, resp := some .writeOk } (Reg.ofOffset off) v, ?_, ?_,
    fun off' hlt' hmod' hne => ?_, writeReg_curOp .., writeReg_pos .., writeReg_inputs .., writeReg_resp ..,
    writeReg_draws ..⟩
  · exact (step_of_write hs hlt hmod hctrl).trans (congrArg _ (hostWrite_idle v hplain hidle))
  · rw [readReg_writeReg_self _ v hplain]
    simp only [Reg.ofOffset_eq_iff (r := .mixSel) rfl hlt hmod]
  · have hother : Reg.ofOffset off' ≠ Reg.ofOffset off := fun e =>
      hne ((Reg.ofOffset_eq_iff (Reg.offset_ofOffset off hlt hmod hreserved) hlt' hmod').mp e)
    rw [readReg_writeReg_ne _ v hother, readReg_of_inputs_resp]

/-! ### Commands and writes while BUSY (20_memory.md R42; 43_control.md R99) -/

/-- A command word but SRST, while BUSY (R42, R99). -/
theorem exec_busy {i : Instr} {s : State} (hi : i ≠ .srst) (hbusy : s.busy = true) : exec i s = .next (dropWrite s) := by
  cases i with
  | nop | loadiv | mix | compress | search | add64 | rotr64 =>
    dsimp only [exec, execNop, execLoadiv, execMix, execCompress, execSearch, execAdd64, execRotr64]
    exact startOp_busy _ _ _ _ _ s hbusy
  | illegal7 | illegal8F => exact startReserved_busy _ _ _ _ s hbusy
  | ctrlset => exact if_pos hbusy
  | srst => exact absurd rfl hi

/-- Settles O23: such a command word is a dropped write, which sets WR_IGN and no more. -/
theorem commandsAreDroppedWhileBusy : Obligations.CommandsAreDroppedWhileBusy := fun _ _ hi hbusy => exec_busy hi hbusy

theorem decodeStart_ne_srst (op : BitVec 4) (irqEn cin : Bool) (rot : BitVec 6) : decodeStart op irqEn cin rot ≠ .srst := by
  unfold decodeStart
  split <;> exact Instr.noConfusion

/-- SRST is bit 1, whatever the other bits are (R52). -/
theorem decodeWord_eq_srst_iff (v : Word32) : decodeWord v = .srst ↔ v.getLsbD 1 = true := by
  refine ⟨fun h => ?_, fun hbit => if_pos hbit⟩
  by_contra hbit
  rw [decodeWord, if_neg hbit] at h
  split at h
  · exact decodeStart_ne_srst _ _ _ _ h
  · cases h

/-- A host write to CTRL runs its command word (30_encoding.md R50). -/
theorem step_of_ctrl_write {s : State} {v : Word32} {rest : List Input}
    (hs : s.inputs = .access (.write 0x000 4 v) :: rest) :
    step s = exec (decodeWord v) { s with inputs := rest, resp := some .writeOk } := by
  rw [step_of_access s _ rest hs, deliver_command 0x000 4 v _ rfl rfl rfl]

/-- Settles O15: a write to CTRL by bit 1 of its word; a write elsewhere by the kind of its register. -/
theorem busyWritesAreDropped : Obligations.BusyWritesAreDropped := by
  intro s off v rest hs hlt hmod hbusy
  by_cases hctrl : off = 0x000
  · subst hctrl
    rw [step_of_ctrl_write hs, if_neg (by decide)]
    by_cases hbit : v.getLsbD 1 = true
    · rw [if_pos ⟨rfl, hbit⟩, (decodeWord_eq_srst_iff v).mpr hbit]
      rfl
    · rw [if_neg (hbit ·.2), if_pos (.inl rfl)]
      exact exec_busy (mt (decodeWord_eq_srst_iff v).mp hbit) hbusy
  · have hstatus := Reg.ofOffset_eq_iff (r := .status) rfl hlt hmod
    have hplain := Reg.plainWritable_ofOffset_iff hlt hmod
    rw [step_of_write hs hlt hmod (mt (Reg.ofOffset_eq_iff (r := .ctrl) rfl hlt hmod).mp hctrl)]
    rcases hostWrite_cases (Reg.ofOffset off) v { s with inputs := rest, resp := some .writeOk } with
      ⟨hr, h⟩ | ⟨hr, hw, -, h⟩ | ⟨-, -, hidle, -⟩ | ⟨hr, hw, h⟩
    · rw [h, if_pos (hstatus.mp hr)]
      rfl
    · rw [h, if_neg (mt hstatus.mpr hr), if_neg (hctrl ·.1), if_pos (.inr (hplain.mp hw))]
      rfl
    · exact absurd (hbusy.symm.trans hidle) (by decide)
    · have hro : ¬(off = 0x000 ∨ off = 0x008 ∨ (0x014 ≤ off ∧ off ≤ 0x070) ∨ 0x100 ≤ off) :=
        not_or.mpr ⟨hctrl, mt hplain.mpr (by simp [hw])⟩
      rw [h, if_neg (mt hstatus.mpr hr), if_neg (hctrl ·.1), if_neg hro]

/-! ### Short operations in one step of the core (20_memory.md R45; 60_exceptions.md R105, R120) -/

/-- An operation whose rule is one step of the core, and does not look at the inputs to come, ends alike whether it is left
running or performed whole. -/
theorem startOp_finishes_in_one_step {o : Op} {rule : Latch → State → State} {s : State} (q c : Bool) (n : BitVec 6)
    (x : Input) (rest : List Input) (hidle : s.busy = false)
    (hstep : ∀ (l : Latch) (u : State), u.curOp = some { l with op := o } → coreStep u = rule { l with op := o } u)
    (hinputs : ∀ (l : Latch) (u : State) (is : List Input), rule l { u with inputs := is } = { rule l u with inputs := is }) :
    ∃ u t : State, startOp o q c n rule { s with inputs := x :: rest } = .next u ∧ u.busy = true ∧
      startOp o q c n rule { s with inputs := [] } = .next t ∧ coreRun 1 u = { t with inputs := x :: rest } :=
  ⟨_, _, startOp_left_running _ _ _ _ _ _ hidle (List.cons_ne_nil x rest), rfl, startOp_whole _ _ _ _ _ _ hidle rfl,
    (hstep (sample o (setCtrl q c o.code n s)) _ rfl).trans
      (hinputs _ (acceptStart o (setCtrl q c o.code n { s with inputs := [] })) (x :: rest))⟩

/-- Settles O51: the rule of each of the five operations is one step of the core and leaves the inputs alone. -/
theorem shortOperationsFinishInOneStep : Obligations.ShortOperationsFinishInOneStep := by
  intro irqEn cin rot s x rest hidle i hi
  simp only [List.mem_cons, List.not_mem_nil, or_false] at hi
  rcases hi with rfl | rfl | rfl | rfl | rfl <;>
    dsimp only [exec, execNop, execLoadiv, execMix, execAdd64, execRotr64] <;>
    exact startOp_finishes_in_one_step irqEn cin rot x rest hidle (fun _ u h => coreStep_running u _ h) fun _ _ _ => rfl

end Sys2Proof.Machine
end

section
/-! PROOF. The encoding of command words, assembler lines and pseudo-instructions, the packed formats, and the host's
command words, branches, faults and starts (O1 to O8, O46, O47, O60). -/

namespace Sys2Proof.Machine

/-! ### Words of format C (30_encoding.md R51) -/

/-- Each field is read back from where format C puts it. -/
theorem commandWord_fields (rot : BitVec 6) (op : BitVec 4) (cin irqEn srst start : Bool) :
    (commandWord rot op cin irqEn srst start).getLsbD 0 = start ∧
    (commandWord rot op cin irqEn srst start).getLsbD 1 = srst ∧
    fieldIrqEn (commandWord rot op cin irqEn srst start) = irqEn ∧
    fieldCin (commandWord rot op cin irqEn srst start) = cin ∧
    fieldOp (commandWord rot op cin irqEn srst start) = op ∧
    fieldRot (commandWord rot op cin irqEn srst start) = rot := by
  simp only [fieldIrqEn, fieldCin, fieldOp, fieldRot, commandWord, BitVec.getLsbD_append,
    BitVec.extractLsb'_append_eq_ite]
  simp

/-- Masking with a word of format C masks field by field, and clears bits 31:14. -/
theorem and_commandWord (w : Word32) (rot : BitVec 6) (op : BitVec 4) (cin irqEn srst start : Bool) :
    w &&& commandWord rot op cin irqEn srst start =
      commandWord (fieldRot w &&& rot) (fieldOp w &&& op) (fieldCin w && cin) (fieldIrqEn w && irqEn)
        (w.getLsbD 1 && srst) (w.getLsbD 0 && start) := by
  refine BitVec.eq_of_getLsbD_eq fun i hi => ?_
  simp only [commandWord, fieldRot, fieldOp, fieldCin, fieldIrqEn, BitVec.getLsbD_append, BitVec.getLsbD_extractLsb',
    BitVec.getLsbD_and, BitVec.getLsbD_zero, BitVec.getLsbD_ofBool]
  grind

/-- The fields of format C, each shifted to its place. -/
theorem commandWord_eq_or (rot : BitVec 6) (op : BitVec 4) (cin irqEn srst start : Bool) :
    commandWord rot op cin irqEn srst start =
      (rot.setWidth 32 <<< 8) ||| (op.setWidth 32 <<< 4) ||| ((BitVec.ofBool cin).setWidth 32 <<< 3) |||
        ((BitVec.ofBool irqEn).setWidth 32 <<< 2) ||| ((BitVec.ofBool srst).setWidth 32 <<< 1) |||
        (BitVec.ofBool start).setWidth 32 := by
  refine BitVec.eq_of_getLsbD_eq fun i hi => ?_
  simp only [commandWord, BitVec.getLsbD_append, BitVec.getLsbD_or, BitVec.getLsbD_shiftLeft, BitVec.getLsbD_setWidth,
    BitVec.getLsbD_zero, BitVec.getLsbD_ofBool]
  grind

/-! ### The operation-code map (30_encoding.md R53, R54) -/

/-- A code is that of an operation, or 0x7, or one of 0x8 to 0xF. -/
theorem opCode_cases (op : BitVec 4) : (∃ o : Op, op = o.code) ∨ op = 0x7 ∨ op.getLsbD 3 = true := by
  have h : ∀ op : BitVec 4, (∃ o ∈ [Op.nop, .loadiv, .mix, .compress, .search, .add64, .rotr64], op = o.code) ∨
      op = 0x7 ∨ op.getLsbD 3 = true := by decide
  exact (h op).imp_left fun ⟨o, _, ho⟩ => ⟨o, ho⟩

theorem exists_opCode_of_lt {op : BitVec 4} (h : op < 7) : ∃ o : Op, op = o.code := by
  rcases opCode_cases op with ho | rfl | hbit
  · exact ho
  · exact absurd h (by decide)
  · have hge : ∀ op : BitVec 4, op.getLsbD 3 = true → ¬ op < 7 := by decide
    exact absurd h (hge op hbit)

theorem decodeStart_reserved {op : BitVec 4} (h : op.getLsbD 3 = true) (irqEn cin : Bool) (rot : BitVec 6) :
    decodeStart op irqEn cin rot = .illegal8F op irqEn cin rot := by
  unfold decodeStart
  split
  case h_9 => rfl
  all_goals exact absurd h (by decide)

theorem decodeStart_wf (op : BitVec 4) (irqEn cin : Bool) (rot : BitVec 6) :
    (decodeStart op irqEn cin rot).wf = true := by
  rcases opCode_cases op with ⟨o, rfl⟩ | rfl | hbit
  · cases o <;> rfl
  · rfl
  · rwa [decodeStart_reserved hbit]

theorem encode_decodeStart (op : BitVec 4) (irqEn cin : Bool) (rot : BitVec 6) :
    encode (decodeStart op irqEn cin rot) = commandWord rot op cin irqEn false true := by
  unfold decodeStart
  split <;> rfl

/-- The map as the chain of tests that a reader of R53's table makes. -/
theorem decodeStart_eq_ite (op : BitVec 4) (irqEn cin : Bool) (rot : BitVec 6) :
    decodeStart op irqEn cin rot =
      if op = 0x0 then .nop irqEn cin rot
      else if op = 0x1 then .loadiv irqEn cin rot
      else if op = 0x2 then .mix irqEn cin rot
      else if op = 0x3 then .compress irqEn cin rot
      else if op = 0x4 then .search irqEn cin rot
      else if op = 0x5 then .add64 irqEn cin rot
      else if op = 0x6 then .rotr64 irqEn cin rot
      else if op = 0x7 then .illegal7 irqEn cin rot
      else .illegal8F op irqEn cin rot := by
  unfold decodeStart
  split
  case h_9 h0 h1 h2 h3 h4 h5 h6 h7 =>
    exact ((if_neg h0).trans <| (if_neg h1).trans <| (if_neg h2).trans <| (if_neg h3).trans <| (if_neg h4).trans <|
      (if_neg h5).trans <| (if_neg h6).trans <| if_neg h7).symm
  all_goals rfl

/-! ### Decoding an encoded instruction (30_encoding.md R51 to R53) -/

theorem decodeWord_commandWord (rot : BitVec 6) (op : BitVec 4) (cin irqEn srst start : Bool) :
    decodeWord (commandWord rot op cin irqEn srst start) =
      if srst then .srst else if start then decodeStart op irqEn cin rot else .ctrlset irqEn cin op rot := by
  obtain ⟨hstart, hsrst, hirq, hcin, hop, hrot⟩ := commandWord_fields rot op cin irqEn srst start
  rw [decodeWord, hstart, hsrst, hirq, hcin, hop, hrot]

theorem decodeWord_encode {i : Instr} (h : i.wf = true) : decodeWord (encode i) = i := by
  cases i with
  | illegal8F op irqEn cin rot => exact (decodeWord_commandWord ..).trans (decodeStart_reserved h ..)
  | _ => exact decodeWord_commandWord ..

/-- The byte lanes of a word join to it (20_memory.md R38). -/
theorem wordOfLanes_extract (w : Word32) :
    wordOfLanes (w.extractLsb' 0 8) (w.extractLsb' 8 8) (w.extractLsb' 16 8) (w.extractLsb' 24 8) = w := by
  unfold wordOfLanes
  rw [BitVec.extractLsb'_append_extractLsb'_eq_extractLsb' (start₁ := 16) (len₁ := 8) rfl,
    BitVec.extractLsb'_append_extractLsb'_eq_extractLsb' (start₁ := 8) (len₁ := 8) rfl]
  exact BitVec.extractLsb'_append_extractLsb' (w := 24) (len := 8)

theorem decode_lanesOfWord (w : Word32) : decode (lanesOfWord w) = .ok (decodeWord w, []) := by
  simp only [lanesOfWord, decode, wordOfLanes_extract]

/-- Settles O1: a word of format C decodes by its fields, and the map sends each code back to its constructor. -/
theorem decodeOfEncodeIsIdentity : Obligations.DecodeOfEncodeIsIdentity := fun i hwf =>
  ⟨decodeWord_encode hwf, by rw [decode_lanesOfWord, decodeWord_encode hwf]⟩

/-! ### Decoding any word (30_encoding.md R51, R52) -/

theorem decodeWord_start {w : Word32} (hsrst : w.getLsbD 1 = false) (hstart : w.getLsbD 0 = true) :
    decodeWord w = decodeStart (fieldOp w) (fieldIrqEn w) (fieldCin w) (fieldRot w) := by
  simp only [decodeWord, hsrst, hstart, Bool.false_eq_true, if_false, if_true]

theorem decodeWord_noStrobe {w : Word32} (hsrst : w.getLsbD 1 = false) (hstart : w.getLsbD 0 = false) :
    decodeWord w = .ctrlset (fieldIrqEn w) (fieldCin w) (fieldOp w) (fieldRot w) := by
  simp only [decodeWord, hsrst, hstart, Bool.false_eq_true, if_false]

theorem decodeWord_wf (w : Word32) : (decodeWord w).wf = true := by
  unfold decodeWord
  split
  · rfl
  · split
    · exact decodeStart_wf ..
    · rfl

/-- Bits 13:0 are the fields of format C. -/
theorem and_fieldMask (w : Word32) :
    w &&& 0x00003FFF =
      commandWord (fieldRot w) (fieldOp w) (fieldCin w) (fieldIrqEn w) (w.getLsbD 1) (w.getLsbD 0) := by
  rw [show (0x00003FFF : Word32) = commandWord (.allOnes 6) (.allOnes 4) true true true true from rfl, and_commandWord]
  simp only [BitVec.and_allOnes, Bool.and_true]

theorem encode_decodeWord (w : Word32) :
    encode (decodeWord w) = if w.getLsbD 1 then 0x00000002 else w &&& 0x00003FFF := by
  rw [and_fieldMask]
  rcases hsrst : w.getLsbD 1 with _ | _
  · rcases hstart : w.getLsbD 0 with _ | _
    · rw [decodeWord_noStrobe hsrst hstart]
      rfl
    · rw [decodeWord_start hsrst hstart]
      exact encode_decodeStart ..
  · rw [(decodeWord_eq_srst_iff w).mpr hsrst]
    rfl

/-- Settles O2: the fields that decoding keeps are bits 13:0, and SRST keeps none. -/
theorem encodeOfDecodeKeepsTheFields : Obligations.EncodeOfDecodeKeepsTheFields := fun w =>
  ⟨decodeWord_wf w, encode_decodeWord w⟩

/-- What the mask of R52 leaves: OP, SRST and START. -/
theorem and_opcodeMask (w : Word32) :
    w &&& 0x000000F3 = commandWord 0 (fieldOp w) false false (w.getLsbD 1) (w.getLsbD 0) := by
  rw [show (0x000000F3 : Word32) = commandWord 0 (.allOnes 4) false false true true from rfl, and_commandWord]
  simp only [BitVec.and_allOnes, Bool.and_true, Bool.and_false, BitVec.and_zero, BitVec.ofNat_eq_ofNat]

/-- The match of R52 for a code: that code with START. -/
theorem opcodeMatch_eq (op : BitVec 4) :
    (op.setWidth 32 <<< 4) ||| (0x1 : Word32) = commandWord 0 op false false false true := by
  simp [commandWord_eq_or]

theorem and_opcodeMask_eq_match_iff (w : Word32) (op : BitVec 4) :
    w &&& (0x000000F3 : Word32) = (op.setWidth 32 <<< 4) ||| (0x1 : Word32) ↔
      w.getLsbD 1 = false ∧ w.getLsbD 0 = true ∧ fieldOp w = op := by
  rw [and_opcodeMask, opcodeMatch_eq]
  constructor
  · intro h
    obtain ⟨hstart, hsrst, -, -, hop, -⟩ := commandWord_fields 0 (fieldOp w) false false (w.getLsbD 1) (w.getLsbD 0)
    obtain ⟨hstart', hsrst', -, -, hop', -⟩ := commandWord_fields 0 op false false false true
    rw [h] at hstart hsrst hop
    exact ⟨hsrst.symm.trans hsrst', hstart.symm.trans hstart', hop.symm.trans hop'⟩
  · rintro ⟨hsrst, hstart, hop⟩
    rw [hsrst, hstart, hop]

/-- Settles O3: SRST is looked at first, then START, then the code; the mask leaves just these three. -/
theorem decodeTakesTheFirstCase : Obligations.DecodeTakesTheFirstCase := by
  rintro w q c n o rfl rfl rfl rfl
  exact ⟨(decodeWord_eq_srst_iff w).mpr, decodeWord_noStrobe,
    fun hsrst hstart => (decodeWord_start hsrst hstart).trans (decodeStart_eq_ite ..), and_opcodeMask_eq_match_iff w⟩

/-- Settles O4: fixed words, each decoded. -/
theorem sampleCommandWordsDecode : Obligations.SampleCommandWordsDecode := by
  refine ⟨?_, ?_, ?_, ?_, ?_, ?_, ?_, ?_, ?_⟩ <;> decide

/-- Settles O8: a write to CTRL is a command word, and every word decodes to a well-formed instruction. -/
theorem stepExecutesTheCommandWord : Obligations.StepExecutesTheCommandWord := fun _ w _ hs =>
  ⟨decodeWord_wf w, step_of_ctrl_write hs⟩

/-! ### The assembler and the pseudo-instructions (30_encoding.md R61, R63) -/

theorem withIrq_eq_or (irq : Bool) (w : Word32) : withIrq irq w = w ||| if irq then 0x4 else 0x0 := by
  cases irq <;> simp [withIrq]

theorem assemble_rotr64 (n : Nat) (irq : Bool) :
    assemble (.rotr64 n irq) =
      if n ≤ 63 then some (withIrq irq ((0x00000061 : Word32) ||| (BitVec.ofNat 32 n <<< 8))) else none := by
  simp [assemble, AsmLine.inRange]

/-- The word of `ROTR64 n` is of format C, with the amount in ROT: 0x61 is the code 0x6 with START. -/
theorem rotr64Word_eq_commandWord {n : Nat} (hn : n ≤ 63) (irq : Bool) :
    (0x00000061 : Word32) ||| (BitVec.ofNat 32 n <<< 8) ||| (if irq then 0x4 else 0x0) =
      commandWord (BitVec.ofNat 6 n) 0x6 false irq false true := by
  have hrot : (BitVec.ofNat 6 n).setWidth 32 = BitVec.ofNat 32 n := by
    apply BitVec.eq_of_toNat_eq
    simp only [BitVec.toNat_ofNat, BitVec.toNat_setWidth]
    omega
  have hirq : (BitVec.ofBool irq).setWidth 32 <<< 2 = (if irq then 0x4 else 0x0 : Word32) := by cases irq <;> rfl
  have hcode : (0x00000061 : Word32) = (0x6 : BitVec 4).setWidth 32 <<< 4 ||| (BitVec.ofBool true).setWidth 32 := rfl
  rw [commandWord_eq_or, hrot, hirq, hcode]
  ac_rfl

/-- Settles O5: a line in range is its word of the table with the suffix, and only `ROTR64 n` can be out of range. -/
theorem assemblerLinesGiveTheirWords : Obligations.AssemblerLinesGiveTheirWords := by
  intro irq n
  have suffixed (w : Word32) := congrArg some (withIrq_eq_or irq w)
  refine ⟨suffixed _, suffixed _, suffixed _, suffixed _, suffixed _, suffixed _, suffixed _, fun hn => ⟨?_, ?_⟩,
    fun hn => ?_⟩
  · rw [assemble_rotr64, if_pos hn]
    exact suffixed _
  · exact (congrArg decodeWord (rotr64Word_eq_commandWord hn irq)).trans (decodeWord_commandWord ..)
  · rw [assemble_rotr64, if_neg (Nat.not_le.mpr hn)]

theorem extractLsb'_four_eq {w : Word32} {k a : Nat} (h : w.toNat / 2 ^ k % 16 = a % 16) :
    w.extractLsb' k 4 = BitVec.ofNat 4 a := by
  apply BitVec.eq_of_toNat_eq
  rwa [BitVec.extractLsb'_toNat, BitVec.toNat_ofNat, Nat.shiftRight_eq_div_pow]

/-- The MIX_SEL word as a number: its six indices are digits to base 16. -/
theorem mixSelImage_toNat (a b c d mx my : Nat) :
    (mixSelImage a b c d mx my).toNat =
      (a + b * 16 + c * 256 + d * 4096 + mx * 65536 + my * 1048576) % 4294967296 := by
  simp only [mixSelImage, BitVec.toNat_ofNat, Nat.reducePow]

/-- Digits are read back nibble by nibble (R23). -/
theorem mixSelOf_mixSelImage {a b c d mx : Nat} (ha : a < 16) (hb : b < 16) (hc : c < 16) (hd : d < 16) (hmx : mx < 16)
    (my : Nat) :
    mixSelOf (mixSelImage a b c d mx my) =
      ⟨BitVec.ofNat 4 a, BitVec.ofNat 4 b, BitVec.ofNat 4 c, BitVec.ofNat 4 d, BitVec.ofNat 4 mx, BitVec.ofNat 4 my⟩ := by
  have h := mixSelImage_toNat a b c d mx my
  rw [mixSelOf, extractLsb'_four_eq (a := a) (by omega), extractLsb'_four_eq (a := b) (by omega),
    extractLsb'_four_eq (a := c) (by omega), extractLsb'_four_eq (a := d) (by omega),
    extractLsb'_four_eq (a := mx) (by omega), extractLsb'_four_eq (a := my) (by omega)]

/-- Six digits stay below 2^24, so the reserved bits of MIX_SEL are 0. -/
theorem mixSelImage_and_mask {a b c d mx my : Nat} (ha : a < 16) (hb : b < 16) (hc : c < 16) (hd : d < 16)
    (hmx : mx < 16) (hmy : my < 16) : mixSelImage a b c d mx my &&& 0x00FFFFFF = mixSelImage a b c d mx my := by
  have h := mixSelImage_toNat a b c d mx my
  apply BitVec.eq_of_toNat_eq
  rw [BitVec.toNat_and, show (0x00FFFFFF : Word32).toNat = 2 ^ 24 - 1 from rfl, Nat.and_two_pow_sub_one_eq_mod]
  omega

theorem high32_append_low32 (v : Word64) : high32 v ++ low32 v = v :=
  BitVec.extractLsb'_append_extractLsb' (w := 32) (len := 32)

/-- Settles O6: the MIX_SEL word by its digits, LD64 by the halves of its value, the offsets by the register map. -/
theorem pseudoInstructionsExpand : Obligations.PseudoInstructionsExpand := by
  refine ⟨fun a b c d mx my ha hb hc hd hmx hmy => ?_, fun n v => ⟨low32 v, high32 v, rfl, high32_append_low32 v⟩,
    ⟨rfl, rfl, rfl⟩, ⟨rfl, rfl, rfl⟩, fun i => ⟨rfl, ?_⟩, fun i => ⟨rfl, ?_⟩, rfl⟩
  · refine ⟨_, if_pos ⟨ha, hb, hc, hd, hmx, hmy⟩, mixSelOf_mixSelImage ha hb hc hd hmx my, ?_⟩
    rw [mixSelWord_mixSelOf, mixSelImage_and_mask ha hb hc hd hmx hmy]
  · exact ⟨Reg.ofOffset_state i .lo, (congrArg _ (Nat.add_right_comm 0x100 4 _)).trans (Reg.ofOffset_state i .hi)⟩
  · exact ⟨Reg.ofOffset_msg i .lo, (congrArg _ (Nat.add_right_comm 0x180 4 _)).trans (Reg.ofOffset_msg i .hi)⟩

/-! ### The packed formats (30_encoding.md R57 to R60) -/

/-- Format P joins four byte lanes (R59). -/
theorem encodeP_eq_wordOfLanes (c : Coord) :
    encodeP c =
      wordOfLanes ((c.xIndex + 1).extractLsb' 0 8) ((c.yIndex + 1).extractLsb' 0 8) (c.xPos.extractLsb' 0 8)
        (c.yPos.extractLsb' 0 8) := by
  refine BitVec.eq_of_getLsbD_eq fun i hi => ?_
  simp only [encodeP, lane8, wordOfLanes, BitVec.getLsbD_append, BitVec.getLsbD_or, BitVec.getLsbD_shiftLeft,
    BitVec.getLsbD_setWidth, BitVec.getLsbD_extractLsb']
  grind

theorem wordOfLanes_lanes (l0 l1 l2 l3 : Byte) :
    (wordOfLanes l0 l1 l2 l3).extractLsb' 0 8 = l0 ∧ (wordOfLanes l0 l1 l2 l3).extractLsb' 8 8 = l1 ∧
    (wordOfLanes l0 l1 l2 l3).extractLsb' 16 8 = l2 ∧ (wordOfLanes l0 l1 l2 l3).extractLsb' 24 8 = l3 := by
  simp only [wordOfLanes, BitVec.extractLsb'_append_eq_ite]
  simp

/-- Settles O47: the lanes that format P joins are read back. -/
theorem resultLanes : Obligations.ResultLanes := by
  intro c
  rw [encodeP_eq_wordOfLanes]
  exact wordOfLanes_lanes ..

/-- Above its five packed words a message block is zero (R58, R86). -/
theorem buildMessage_eq_zero (P : ParamFile) (c : Coord) (i : Fin 16) (hi : 5 ≤ i.val) : (buildMessage P c)[i] = 0 := by
  have h (a b c d e : Word64) : (#v[a, b, c, d, e] ++ Vector.replicate 11 (0 : Word64))[i.val] = 0 := by
    rw [Vector.getElem_append_right i.isLt hi, Vector.getElem_replicate]
  exact h ..

/-- Settles O46: the packed words are those of formats W0 and WH as written, and the rest is zero. -/
theorem messageBlockLayout : Obligations.MessageBlockLayout := fun P c =>
  ⟨rfl, rfl, rfl, rfl, rfl, buildMessage_eq_zero P c⟩

theorem params_valid_iff (p : Params) :
    p.valid = true ↔ ∀ (r : Fin 12) (j : Fin 16), (p.sigmaLut r j).toNat % 2 = 0 := by
  simp only [Params.valid, decide_eq_true_eq, BitVec.getLsbD, Nat.testBit_zero, decide_eq_false_iff_not,
    Nat.mod_two_ne_one]

theorem params_accept_iff (p : Params) : (∃ q, p.accept = .ok q) ↔ p.valid = true := by
  unfold Params.accept
  split <;> simp [*]

/-- Bit 0 of every entry of the machine's table is the zero bit put below its index (R60). -/
theorem config_params_valid : Config.params.valid = true :=
  decide_eq_true fun _ _ => BitVec.getLsbD_append

theorem sigmaSelect_val (e : BitVec 5) : (sigmaSelect e).val = e.toNat / 2 := by
  have := e.isLt
  simp only [sigmaSelect, fileIndex, BitVec.extractLsb'_toNat, Nat.shiftRight_eq_div_pow]
  omega

/-- Settles O7: the machine's table is valid, and validity is evenness of all entries. -/
theorem permutationEntriesAreEven : Obligations.PermutationEntriesAreEven := by
  refine ⟨fun r j => ?_, fun p => (params_accept_iff p).trans (params_valid_iff p)⟩
  have heven := (params_valid_iff _).mp config_params_valid r j
  have hlt := (Config.params.sigmaLut r j).isLt
  exact ⟨heven, by omega, sigmaSelect_val _⟩

/-! ### A command word that starts an operation (43_control.md R99) -/

/-- A code of R53 runs its operation by `startOp`. -/
theorem exec_decodeStart_code (o : Op) (q c : Bool) (n : BitVec 6) (s : State) :
    ∃ rule, exec (decodeStart o.code q c n) s = startOp o q c n rule s := by
  cases o with
  | nop => exact ⟨fun _ => ruleNop, rfl⟩
  | loadiv => exact ⟨fun _ => ruleLoadiv Config.params, rfl⟩
  | mix => exact ⟨ruleMix, rfl⟩
  | compress => exact ⟨fun _ => ruleCompress Config.params, rfl⟩
  | search => exact ⟨fun _ => ruleSearch Config.params, rfl⟩
  | add64 => exact ⟨ruleAdd64, rfl⟩
  | rotr64 => exact ⟨ruleRotr64, rfl⟩

/-- With an input to come, START leaves its operation running (log entry 2). -/
theorem exec_start_left_running {w : Word32} {s : State} (hsrst : w.getLsbD 1 = false) (hstart : w.getLsbD 0 = true)
    (hop : fieldOp w < 7) (hidle : s.busy = false) (hinputs : s.inputs ≠ []) :
    ∃ o : Op, exec (decodeWord w) s =
      .next (acceptStart o (setCtrl (fieldIrqEn w) (fieldCin w) o.code (fieldRot w) s)) := by
  obtain ⟨o, ho⟩ := exists_opCode_of_lt hop
  obtain ⟨rule, hexec⟩ := exec_decodeStart_code o (fieldIrqEn w) (fieldCin w) (fieldRot w) s
  exact ⟨o, by rw [decodeWord_start hsrst hstart, ho, hexec, startOp_left_running _ _ _ _ _ _ hidle hinputs]⟩

/-! ### The host's turns (30_encoding.md R62; 20_memory.md R37) -/

theorem hostTurn_wr {h : HostSys} {off : Nat} {v : Word32} (hstmt : h.prog[h.pc]? = some (.wr off v)) :
    hostTurn h = afterAccess none h (issue (.write off 4 v) h.core) := by
  rw [hostTurn, hstmt]

theorem hostTurn_rd {h : HostSys} {off : Nat} {name : String} (hstmt : h.prog[h.pc]? = some (.rd off name)) :
    hostTurn h = afterAccess (some name) h (issue (.read off 4) h.core) := by
  rw [hostTurn, hstmt]

theorem hostTurn_bne {h : HostSys} {name target : String} {mask value v : Word32} {k : Nat}
    (hstmt : h.prog[h.pc]? = some (.bne name mask value target)) (hv : lookupVar h.vars name = some v)
    (hk : h.prog.idxOf? (.label target) = some k) :
    hostTurn h = .runs { h with pc := if v &&& mask ≠ value then k else h.pc + 1 } := by
  simp only [hostTurn, hstmt, hv, hk]
  split <;> rfl

/-- What the machine's step answers is what the host's access answers, with the inputs put back. -/
theorem issue_of_step {a : Access} {s t : State}
    (h : step { s with inputs := .access a :: .core 0 :: s.inputs } = .next t) :
    issue a s = .next { t with inputs := s.inputs } := by
  rw [issue, h]

theorem issue_misaligned {a : Access} (s : State) (hlt : a.addr < 0x200) (hmod : a.addr % 4 ≠ 0) :
    issue a s = .next (busError a s) := by
  rw [issue_of_step (step_of_misaligned rfl hlt fun h => hmod h.2)]
  cases a <;> rfl

/-- The empty core turn that `issue` puts behind the write leaves the operation running (log entry 19). -/
theorem issue_start {v : Word32} {s : State} (hsrst : v.getLsbD 1 = false) (hstart : v.getLsbD 0 = true)
    (hop : fieldOp v < 7) (hidle : s.busy = false) :
    ∃ t : State, issue (.write 0x000 4 v) s = .next t ∧ t.resp = some .writeOk ∧ t.busy = true ∧
      t.status.done = false ∧ t.inputs = s.inputs := by
  obtain ⟨o, hexec⟩ := exec_start_left_running
    (s := { s with inputs := .core 0 :: s.inputs, resp := some .writeOk }) hsrst hstart hop hidle (List.cons_ne_nil _ _)
  exact ⟨_, issue_of_step ((step_of_ctrl_write rfl).trans hexec), rfl, rfl, rfl, rfl⟩

theorem afterAccess_busError (name : Option String) (h : HostSys) (a : Access) (s : State) :
    afterAccess name h (.next (busError a s)) = .busErrorAt h.pc := by
  cases a <;> rfl

theorem afterAccess_writeOk (h : HostSys) {t : State} (hresp : t.resp = some .writeOk) :
    afterAccess none h (.next t) = .runs { h with pc := h.pc + 1, core := t } := by
  dsimp only [afterAccess]
  rw [hresp]

/-- Settles O60: a branch looks at the masked value alone, a misaligned access is answered by an ERROR response, and START
meets an input to come. -/
theorem hostBranchesFaultsAndStarts : Obligations.HostBranchesFaultsAndStarts := by
  refine ⟨fun _ _ _ _ _ _ _ => hostTurn_bne, fun h off v name hlt hmod => ⟨fun hstmt => ?_, fun hstmt => ?_⟩,
    fun h v hstmt hidle hsrst hstart hop => ?_⟩
  · rw [hostTurn_wr hstmt, issue_misaligned (a := .write off 4 v) h.core hlt hmod, afterAccess_busError]
  · rw [hostTurn_rd hstmt, issue_misaligned (a := .read off 4) h.core hlt hmod, afterAccess_busError]
  · obtain ⟨t, hissue, hresp, hrunning⟩ := issue_start hsrst hstart hop hidle
    refine ⟨t, ?_, hrunning⟩
    rw [hostTurn_wr hstmt, hissue, afterAccess_writeOk h hresp]

end Sys2Proof.Machine
end

section
/-! PROOF. The adder and rotator units, the adder's emulation by halves, and the operations ADD64 and ROTR64 (O36, O37, O40 to
O42). -/

namespace Sys2Proof.Machine

/-! ### The adder unit (40_arith.md R64) -/

/-- Two words and a carry-in stay below twice the modulus, so that the carry-out of an addition is one bit. -/
theorem toNat_add_carry_lt {w : Nat} (a b : BitVec w) (c : Bool) : a.toNat + b.toNat + c.toNat < 2 ^ (w + 1) := by
  have ha := a.isLt
  have hb := b.isLt
  have hc := Bool.toNat_lt c
  rw [Nat.pow_succ]
  omega

theorem addSum_toNat (a b : Word64) (cin : Bool) :
    (addSum a b cin).toNat = (a.toNat + b.toNat + cin.toNat) % 2 ^ 64 :=
  BitVec.toNat_ofNat ..

theorem carryOut_toNat (a b : Word64) (cin : Bool) :
    (carryOut a b cin).toNat = (a.toNat + b.toNat + cin.toNat) / 2 ^ 64 := by
  have hquot : (a.toNat + b.toNat + cin.toNat) / 2 ^ 64 < 2 := Nat.div_lt_of_lt_mul (toNat_add_carry_lt a b cin)
  rw [carryOut]
  interval_cases (a.toNat + b.toNat + cin.toNat) / 2 ^ 64 <;> rfl

/-- Settles O40: the unit's outputs are remainder and quotient of the exact sum. -/
theorem adderUnitIsExact : Obligations.AdderUnitIsExact := fun a b cin =>
  ⟨addSum_toNat a b cin, carryOut_toNat a b cin, Nat.le_sub_one_of_lt (toNat_add_carry_lt a b cin)⟩

/-! ### The adder from two 32-bit additions (40_arith.md R66) -/

/-- The 33-bit addition of the emulation loses nothing. -/
theorem halfAdd_toNat (a b : Word32) (c : Bool) :
    (a.setWidth 33 + b.setWidth 33 + (BitVec.ofBool c).setWidth 33).toNat = a.toNat + b.toNat + c.toNat := by
  have hsum := toNat_add_carry_lt a b c
  simp only [BitVec.toNat_add, BitVec.toNat_setWidth, BitVec.toNat_ofBool]
  omega

/-- A 33-bit sum is its carry over its low 32 bits. -/
theorem toNat_eq_carry_add_setWidth (t : BitVec 33) :
    t.toNat = 2 ^ 32 * (t.getLsbD 32).toNat + (t.setWidth 32).toNat := by
  have ht := t.isLt
  rw [BitVec.getLsbD, Nat.toNat_testBit, BitVec.toNat_setWidth]
  omega

theorem join64_toNat (hi lo : Word32) : (join64 hi lo).toNat = 2 ^ 32 * hi.toNat + lo.toNat := by
  rw [join64, BitVec.toNat_append, ← Nat.shiftLeft_add_eq_or_of_lt lo.isLt, Nat.shiftLeft_eq, Nat.mul_comm]

theorem toNat_eq_halves (x : Word64) : x.toNat = 2 ^ 32 * (high32 x).toNat + (low32 x).toNat := by
  rw [← join64_toNat, join64, high32_append_low32]

theorem toNat_beq_one (c : Bool) : (c.toNat == 1) = c := by cases c <;> rfl

/-- Settles O41: by the weights of the halves and the carries, both sides are the exact sum of R64. -/
theorem adderFromHalves : Obligations.AdderFromHalves := by
  intro a b cin lo hi
  have hlo : lo.toNat = _ := halfAdd_toNat (low32 a) (low32 b) cin
  have hhi : hi.toNat = _ := halfAdd_toNat (high32 a) (high32 b) (lo.getLsbD 32)
  rw [toNat_eq_carry_add_setWidth] at hlo hhi
  have hexact : a.toNat + b.toNat + cin.toNat =
      2 ^ 64 * (hi.getLsbD 32).toNat + (join64 (hi.setWidth 32) (lo.setWidth 32)).toNat := by
    rw [toNat_eq_halves a, toNat_eq_halves b, join64_toNat]
    omega
  have hjoin := (join64 (hi.setWidth 32) (lo.setWidth 32)).isLt
  refine ⟨BitVec.eq_of_toNat_eq ?_, ?_⟩
  · rw [addSum_toNat, hexact, Nat.mul_add_mod, Nat.mod_eq_of_lt hjoin]
  · rw [carryOut, hexact, Nat.mul_add_div (Nat.two_pow_pos 64), Nat.div_eq_of_lt hjoin, Nat.add_zero, toNat_beq_one]

/-! ### The rotator unit (40_arith.md R67) -/

/-- The unit is Lean's own right rotation: at the amount 0 the left shift by 64 leaves nothing. -/
theorem rotr64_eq_rotateRight (x : Word64) (n : BitVec 6) : rotr64 x n = x.rotateRight n.toNat := by
  rw [rotr64, BitVec.rotateRight_def, Nat.mod_eq_of_lt n.isLt]
  split
  · next h => simp [h]
  · rfl

theorem getLsbD_rotateRight_eq_mod {w : Nat} (x : BitVec w) {n j : Nat} (hn : n < w) (hj : j < w) :
    (x.rotateRight n).getLsbD j = x.getLsbD ((j + n) % w) := by
  rw [BitVec.getLsbD_rotateRight_of_lt hn]
  by_cases hwrap : j < w - n
  · rw [decide_eq_true hwrap, cond_true, Nat.mod_eq_of_lt (by omega), Nat.add_comm]
  · rw [decide_eq_false hwrap, cond_false, decide_eq_true hj, Bool.true_and, Nat.mod_eq_sub_mod (by omega),
      Nat.mod_eq_of_lt (by omega)]
    congr 1
    omega

/-- The two shifts of a left rotation by `m` are those of the right rotation that completes the circle; at `m = 0` both
rotations are the operand. -/
theorem rotateLeft_eq_rotateRight_sub {w : Nat} (x : BitVec w) {m : Nat} (hm : m < w) :
    x.rotateLeft m = x.rotateRight ((w - m) % w) := by
  rw [BitVec.rotateLeft_def, BitVec.rotateRight_def, Nat.mod_mod, Nat.mod_eq_of_lt hm]
  by_cases h0 : m = 0
  · simp [h0, BitVec.ushiftRight_eq_zero]
  · rw [Nat.mod_eq_of_lt (by omega), Nat.sub_sub_self hm.le, BitVec.or_comm]

/-- Settles O42: the shifts by definition, the bits and the left rotation by those of Lean's right rotation. -/
theorem rotatorUnitRotates : Obligations.RotatorUnitRotates := by
  refine fun x n => ⟨if_congr BitVec.toNat_inj.symm rfl rfl, fun j hj => ?_, ?_⟩
  · rw [rotr64_eq_rotateRight, getLsbD_rotateRight_eq_mod x n.isLt hj]
  · rw [rotr64_eq_rotateRight, rotateLeft_eq_rotateRight_sub x n.isLt, BitVec.toNat_ofNat, Nat.mod_mod]

/-! ### The operations ADD64 and ROTR64 (40_arith.md R70, R71) -/

/-- START of an operation that neither clears FOUND nor moves the sequencer (43_control.md R99; log entry 6). -/
theorem acceptStart_of_ne {o : Op} (hsearch : o ≠ .search) (hcompress : o ≠ .compress) (s : State) :
    acceptStart o s =
      { s with status := { s.status with done := false, err := 0 }, curOp := some (sample o s) } := by
  have hpos : startPosition o s.pos = s.pos := by
    cases o with
    | search => exact absurd rfl hsearch
    | compress => exact absurd rfl hcompress
    | nop | loadiv | mix | add64 | rotr64 => rfl
  rw [acceptStart, decide_eq_true hsearch, Bool.and_true, hpos]

theorem addSum_eq_ofNat_mod (a b : Word64) (cin : Bool) :
    addSum a b cin = BitVec.ofNat 64 ((a.toNat + b.toNat + cin.toNat) % 2 ^ 64) :=
  BitVec.eq_of_toNat_eq (Nat.mod_mod ..).symm

/-- Settles O36: the unit's outputs are written between an accepted START and the completion that undoes its latch. -/
theorem add64Completes : Obligations.Add64Completes := by
  intro irqEn cin rot s hidle hinputs
  refine (startOp_whole .add64 irqEn cin rot ruleAdd64 s hidle hinputs).trans ?_
  rw [acceptStart_of_ne (by decide) (by decide), (busy_eq_false_iff s).mp hidle, ← addSum_eq_ofNat_mod]
  rfl

/-- Settles O37: likewise, with the rotated operand. -/
theorem rotr64Completes : Obligations.Rotr64Completes := by
  intro irqEn cin rot s hidle hinputs
  refine (startOp_whole .rotr64 irqEn cin rot ruleRotr64 s hidle hinputs).trans ?_
  rw [acceptStart_of_ne (by decide) (by decide), (busy_eq_false_iff s).mp hidle, ← rotr64_eq_rotateRight]
  rfl

end Sys2Proof.Machine
end

section
/-! PROOF. The mixing primitive, the compression and its sequencer, and the operations LOADIV, MIX and COMPRESS (O27 to O29,
O43 to O45, O50, O52). -/

namespace Sys2Proof.Machine

/-! ### The mixing primitive (41_mix_compress.md R72) -/

theorem addTo_eq_set (dst : Fin 16) (x : Word64) (S : WordFile) : addTo dst x S = S.set dst (S[dst] + x) := by
  rw [addTo, addSum_false]

theorem addFromState_eq_set (dst src : Fin 16) (S : WordFile) : addFromState dst src S = S.set dst (S[dst] + S[src]) :=
  addTo_eq_set dst S[src] S

/-- Settles O43: each of the eight statements is an addition or a rotation by definition. -/
theorem mixIsEightStatements : Obligations.MixIsEightStatements := by
  intro a b c d mx my S S1' S1 S2 S3 S4 S5' S5 S6 S7 S8
  have h0 : mixStep 0 a b c d mx my S = S1 := by simp only [mixStep, addFromState_eq_set, addTo_eq_set, S1, S1']
  have h2 : mixStep 2 a b c d mx my S2 = S3 := addFromState_eq_set c d S2
  have h4 : mixStep 4 a b c d mx my S4 = S5 := by simp only [mixStep, addFromState_eq_set, addTo_eq_set, S5, S5']
  have h6 : mixStep 6 a b c d mx my S6 = S7 := addFromState_eq_set c d S6
  have h1 : mixStep 1 a b c d mx my S1 = S2 := rfl
  have h3 : mixStep 3 a b c d mx my S3 = S4 := rfl
  have h5 : mixStep 5 a b c d mx my S5 = S6 := rfl
  have h7 : mixStep 7 a b c d mx my S7 = S8 := rfl
  rw [mix_eq_steps, h0, h1, h2, h3, h4, h5, h6, h7]

/-! ### Mixes on different words commute (41_mix_compress.md R74, R77) -/

/-- `f` reads and writes only the words of a file that `W` names. -/
structure ActsOn (W : Finset (Fin 16)) (f : WordFile → WordFile) : Prop where
  frame : ∀ (S : WordFile) (i : Fin 16), i ∉ W → (f S)[i] = S[i]
  reads : ∀ S T : WordFile, (∀ i ∈ W, S[i] = T[i]) → ∀ i ∈ W, (f S)[i] = (f T)[i]

/-- On the words of `f`, what acts on other words before it or after it makes no difference. -/
theorem ActsOn.getElem_swap {W V : Finset (Fin 16)} {f g : WordFile → WordFile} (hf : ActsOn W f) (hg : ActsOn V g)
    (hdisjoint : Disjoint W V) (S : WordFile) {i : Fin 16} (hi : i ∈ W) : (f (g S))[i] = (g (f S))[i] :=
  have hV {j : Fin 16} (hj : j ∈ W) : j ∉ V := Finset.disjoint_left.mp hdisjoint hj
  calc (f (g S))[i] = (f S)[i] := hf.reads (g S) S (fun j hj => hg.frame S j (hV hj)) i hi
    _ = (g (f S))[i] := (hg.frame (f S) i (hV hi)).symm

theorem ActsOn.commute {W V : Finset (Fin 16)} {f g : WordFile → WordFile} (hf : ActsOn W f) (hg : ActsOn V g)
    (hdisjoint : Disjoint W V) (S : WordFile) : f (g S) = g (f S) := by
  refine Vector.ext fun n hn => ?_
  by_cases hW : (⟨n, hn⟩ : Fin 16) ∈ W
  · exact hf.getElem_swap hg hdisjoint S hW
  · by_cases hV : (⟨n, hn⟩ : Fin 16) ∈ V
    · exact (hg.getElem_swap hf hdisjoint.symm S hV).symm
    · calc (f (g S))[n] = S[n] := (hf.frame _ _ hW).trans (hg.frame S _ hV)
        _ = (g (f S))[n] := ((hg.frame _ _ hV).trans (hf.frame S _ hW)).symm

theorem ActsOn.comp {W : Finset (Fin 16)} {f g : WordFile → WordFile} (hf : ActsOn W f) (hg : ActsOn W g) :
    ActsOn W (fun S => f (g S)) where
  frame S i hi := (hf.frame _ i hi).trans (hg.frame S i hi)
  reads S T h := hf.reads _ _ (hg.reads S T h)

theorem ActsOn.foldl {ι : Type} {W : Finset (Fin 16)} {f : ι → WordFile → WordFile} (hf : ∀ k, ActsOn W (f k)) (l : List ι) :
    ActsOn W (fun S => l.foldl (fun S k => f k S) S) := by
  induction l with
  | nil => exact ⟨fun _ _ _ => rfl, fun _ _ h => h⟩
  | cons k l ih => exact ih.comp (hf k)

/-- A word of `W` set to a value read from the words of `W`. -/
theorem ActsOn.set {W : Finset (Fin 16)} {dst : Fin 16} {v : WordFile → Word64} (hdst : dst ∈ W)
    (hv : ∀ S T : WordFile, (∀ i ∈ W, S[i] = T[i]) → v S = v T) : ActsOn W (fun S => S.set dst (v S)) where
  frame S i hi := by
    have hne : (dst : Nat) ≠ i := fun e => hi (Fin.ext e ▸ hdst)
    simp [hne]
  reads S T h i hi := by
    have hword := h i hi
    simp only [Fin.getElem_fin] at hword ⊢
    rw [hv S T h, Vector.getElem_set, Vector.getElem_set, hword]

theorem addTo_actsOn {W : Finset (Fin 16)} {dst : Fin 16} (hdst : dst ∈ W) (x : Word64) : ActsOn W (addTo dst x) :=
  .set hdst fun S T h => by rw [h dst hdst]

theorem addFromState_actsOn {W : Finset (Fin 16)} {dst src : Fin 16} (hdst : dst ∈ W) (hsrc : src ∈ W) :
    ActsOn W (addFromState dst src) :=
  .set hdst fun S T h => by rw [h dst hdst, h src hsrc]

theorem xorRotate_actsOn {W : Finset (Fin 16)} {dst src : Fin 16} (hdst : dst ∈ W) (hsrc : src ∈ W) (n : BitVec 6) :
    ActsOn W (xorRotate dst src n) :=
  .set hdst fun S T h => by rw [h dst hdst, h src hsrc]

/-- The state words that a mix on a grouping reads and writes. -/
def Quad.words (q : Quad) : Finset (Fin 16) := {q.a, q.b, q.c, q.d}

theorem mixStep_actsOn (k : Fin 8) (q : Quad) (mx my : Word64) : ActsOn q.words (mixStep k q.a q.b q.c q.d mx my) := by
  have ha : q.a ∈ q.words := by simp [Quad.words]
  have hb : q.b ∈ q.words := by simp [Quad.words]
  have hc : q.c ∈ q.words := by simp [Quad.words]
  have hd : q.d ∈ q.words := by simp [Quad.words]
  match k with
  | 0 => exact (addTo_actsOn ha mx).comp (addFromState_actsOn ha hb)
  | 1 => exact xorRotate_actsOn hd ha 32
  | 2 => exact addFromState_actsOn hc hd
  | 3 => exact xorRotate_actsOn hb hc 24
  | 4 => exact (addTo_actsOn ha my).comp (addFromState_actsOn ha hb)
  | 5 => exact xorRotate_actsOn hd ha 16
  | 6 => exact addFromState_actsOn hc hd
  | 7 => exact xorRotate_actsOn hb hc 63

theorem roundMix_actsOn (p : Params) (M : WordFile) (r : Fin 12) (i : Fin 8) : ActsOn (group i).words (roundMix p M r i) := by
  have hsteps : roundMix p M r i = fun S => (List.finRange 8).foldl (fun S k => roundStep p M r i k S) S :=
    funext (roundMix_eq_steps p M r i)
  rw [hsteps]
  simp only [roundStep]
  exact .foldl (fun k => mixStep_actsOn k (group i) _ _) _

/-- The groupings of one half of a round share no word (R74). -/
theorem group_words_disjoint : ∀ i j : Fin 8, (i.val < 4 ↔ j.val < 4) → i ≠ j →
    Disjoint (group i).words (group j).words := by decide

/-- Settles O45: two mixes of one half act on different words. -/
theorem halfRoundMixesCommute : Obligations.HalfRoundMixesCommute := by
  intro p M S r i j hhalf
  by_cases hij : i = j
  · rw [hij]
  · exact (roundMix_actsOn p M r i).commute (roundMix_actsOn p M r j) (group_words_disjoint i j hhalf hij) S

/-! ### The compression as one loop (41_mix_compress.md R74 to R76, R78) -/

theorem finRange_mul (m n : Nat) :
    List.finRange (m * n) = (List.finRange m).flatMap fun i => (List.finRange n).map (Fin.mkDivMod i) := by
  rw [← List.ofFn_id, List.ofFn_mul, List.flatMap_def, ← List.ofFn_eq_map]
  refine congrArg (List.flatten <| List.ofFn ·) (funext fun i => ?_)
  rw [← List.ofFn_eq_map]
  exact congrArg List.ofFn (funext fun j => Fin.ext (congrArg (· + j.val) (Nat.mul_comm ..)))

/-- Two nested loops are one loop over quotient and remainder. -/
theorem foldl_finRange_mul {α : Type} {m n : Nat} (f : α → Fin m → Fin n → α) (x : α) :
    (List.finRange m).foldl (fun x i => (List.finRange n).foldl (fun x j => f x i j) x) x =
      (List.finRange (m * n)).foldl (fun x k => f x k.divNat k.modNat) x := by
  simp only [finRange_mul, List.foldl_flatMap, List.foldl_map, Fin.divNat_mkDivMod, Fin.modNat_mkDivMod]

theorem compressFile_eq_mixes (p : Params) (M S : WordFile) :
    compressFile p M S = (List.finRange (12 * 8)).foldl (fun S n => roundMix p M n.divNat n.modNat S) S := by
  simp only [compressFile, mixRound, foldl_finRange_mul]

theorem compressFile_eq_statements (p : Params) (M S : WordFile) :
    compressFile p M S =
      (List.finRange (12 * 8 * 8)).foldl
        (fun S n => roundStep p M n.divNat.divNat n.divNat.modNat n.modNat S) S := by
  simp only [compressFile_eq_mixes, roundMix_eq_steps, foldl_finRange_mul]

/-- The message word that an entry of the schedule selects (30_encoding.md R60). -/
theorem getElem_sigmaSelect (M : WordFile) (e : BitVec 5) : M[sigmaSelect e] = M[e.toNat / 2] := by
  simp only [Fin.getElem_fin, sigmaSelect_val]

/-- The groupings as the table of R74. -/
theorem group_eq_table : ∀ i : Fin 8,
    let q := ([(0, 4, 8, 12), (1, 5, 9, 13), (2, 6, 10, 14), (3, 7, 11, 15),
      (0, 5, 10, 15), (1, 6, 11, 12), (2, 7, 8, 13), (3, 4, 9, 14)] : List (Fin 16 × Fin 16 × Fin 16 × Fin 16))[i.val]!
    group i = ⟨q.1, q.2.1, q.2.2.1, q.2.2.2⟩ := by
  decide

/-- Settles O44: the two loops of R76 as one, and each mix by the tables of R74 and R75. -/
theorem compressIsNinetySixMixes : Obligations.CompressIsNinetySixMixes := by
  intro p M S
  rw [compressFile_eq_mixes]
  refine List.foldl_ext _ _ S fun T n _ => ?_
  rw [roundMix, messageX, messageY, getElem_sigmaSelect, getElem_sigmaSelect, group_eq_table]
  rfl

/-! ### The sequencer's order (41_mix_compress.md R78) -/

/-- The place of (r, i, k) among the 768 statements of a compression. -/
def Position.place (p : Position) : Nat := 64 * p.r.val + 8 * p.i.val + p.k.val

theorem Position.place_startPosition (q : Position) : (startPosition .compress q).place = 0 := rfl

theorem Position.atLast_iff (p : Position) : p.atLast = true ↔ p.place = 767 := by
  simp only [atLast, decide_eq_true_eq, place, Fin.ext_iff]
  omega

theorem Position.atLast_eq_false_of_lt {q : Position} (h : q.place < 767) : q.atLast = false := by
  rw [← Bool.not_eq_true, q.atLast_iff]
  omega

theorem Position.place_nextStatement {p : Position} (h : p.atLast = false) : p.nextStatement.place = p.place + 1 := by
  have hlast : ¬(p.r = 11 ∧ p.i = 7 ∧ p.k = 7) := of_decide_eq_false h
  unfold nextStatement place
  split_ifs with hk hi
  · have := Fin.val_add_one_of_lt (Fin.lt_last_iff_ne_last.mpr hk)
    simp only
    omega
  · have := Fin.val_add_one_of_lt (Fin.lt_last_iff_ne_last.mpr hi)
    simp only
    omega
  · have hr : p.r ≠ 11 := fun hr => hlast ⟨hr, not_not.mp hi, not_not.mp hk⟩
    have := Fin.val_add_one_of_lt (Fin.lt_last_iff_ne_last.mpr hr)
    simp only
    omega

theorem Position.roundsEnd_nextStatement (q : Position) : roundsEnd q.nextStatement = roundsEnd q := by
  unfold nextStatement
  split_ifs <;> rfl

theorem Position.roundsEnd_of_last {q : Position} (h : q.atLast = true) : roundsEnd q = q := by
  obtain ⟨yy, xx, phase, r, i, k⟩ := q
  obtain ⟨rfl, rfl, rfl⟩ : r = 11 ∧ i = 7 ∧ k = 7 := of_decide_eq_true h
  rfl

/-- Settles O50: the place counts the statements, and the rest of the position is what `roundsEnd` keeps. -/
theorem sequencerOrder : Obligations.SequencerOrder := fun p =>
  have hrest := Position.roundsEnd_nextStatement p
  ⟨p.place_startPosition, p.atLast_iff, fun h => ⟨Position.place_nextStatement h, (congrArg Position.xx hrest :),
    (congrArg Position.yy hrest :), (congrArg Position.phase hrest :)⟩⟩

/-! ### COMPRESS, statement by statement (41_mix_compress.md R76, R78, R81) -/

/-- What the statements of a compression from place `n` on make of a state file. -/
def statementsFrom (p : Params) (M : WordFile) (n : Nat) (S : WordFile) : WordFile :=
  ((List.finRange (12 * 8 * 8)).drop n).foldl
    (fun S m => roundStep p M m.divNat.divNat m.divNat.modNat m.modNat S) S

theorem statementsFrom_zero (p : Params) (M S : WordFile) : statementsFrom p M 0 S = compressFile p M S := by
  rw [statementsFrom, List.drop_zero, compressFile_eq_statements]

theorem statementsFrom_end (p : Params) (M : WordFile) {n : Nat} (h : 12 * 8 * 8 ≤ n) (S : WordFile) :
    statementsFrom p M n S = S := by
  rw [statementsFrom, List.drop_eq_nil_of_le (List.length_finRange.trans_le h), List.foldl_nil]

theorem statementsFrom_place (p : Params) (M : WordFile) (q : Position) (S : WordFile) :
    statementsFrom p M q.place S = statementsFrom p M (q.place + 1) (roundStep p M q.r q.i q.k S) := by
  have hlt : q.place < 12 * 8 * 8 := by
    unfold Position.place
    omega
  have hplace : (⟨q.place, hlt⟩ : Fin (12 * 8 * 8)) = Fin.mkDivMod (Fin.mkDivMod q.r q.i) q.k := by
    apply Fin.ext
    simp only [Fin.coe_mkDivMod, Position.place]
    omega
  rw [statementsFrom, List.drop_eq_getElem_cons (by simpa using hlt), List.foldl_cons, List.getElem_finRange,
    Fin.cast_mk, hplace, Fin.divNat_mkDivMod, Fin.modNat_mkDivMod, Fin.divNat_mkDivMod, Fin.modNat_mkDivMod]
  rfl

/-- A step of the ROUNDS phase that is not the last (R78). -/
def advanceStatement (p : Params) (s : State) : State := { statementAt p s with pos := s.pos.nextStatement }

theorem compressStep_of_not_last {p : Params} {s : State} (h : s.pos.atLast = false) :
    compressStep p s = advanceStatement p s := by
  simp [compressStep, advanceStatement, h]

theorem compressStep_of_last {p : Params} {s : State} (h : s.pos.atLast = true) :
    compressStep p s = complete .ok (statementAt p s) := by
  simp [compressStep, h]

/-- Step by step from its position, a compression makes of S what its remaining statements make of it. -/
theorem statementAt_iterate_advance (p : Params) (n : Nat) (s : State) (h : s.pos.place + n = 767) :
    statementAt p ((advanceStatement p)^[n] s) =
      { s with S := statementsFrom p s.M s.pos.place s.S, pos := roundsEnd s.pos } := by
  induction n generalizing s with
  | zero =>
    rw [statementsFrom_place, statementsFrom_end _ _ (by omega), Position.roundsEnd_of_last (s.pos.atLast_iff.mpr h)]
    rfl
  | succ n ih =>
    have hnext : (advanceStatement p s).pos.place = s.pos.place + 1 :=
      Position.place_nextStatement (Position.atLast_eq_false_of_lt (by omega))
    rw [Function.iterate_succ_apply, ih _ (by omega), hnext, statementsFrom_place p s.M s.pos s.S]
    simp only [advanceStatement, Position.roundsEnd_nextStatement]
    rfl

theorem iterate_advanceStatement_curOp (p : Params) (n : Nat) (s : State) :
    ((advanceStatement p)^[n] s).curOp = s.curOp := by
  induction n generalizing s with
  | zero => rfl
  | succ n ih => exact ih (advanceStatement p s)

theorem coreStep_compress {s : State} {l : Latch} (hl : s.curOp = some l) (hop : l.op = .compress) :
    coreStep s = compressStep Config.params s := by
  rw [coreStep_running s l hl, hop]

theorem coreRun_compress {s : State} {l : Latch} (hl : s.curOp = some l) (hop : l.op = .compress) (n : Nat)
    (h : s.pos.place + n ≤ 767) : coreRun n s = (advanceStatement Config.params)^[n] s := by
  induction n generalizing s with
  | zero => rfl
  | succ n ih =>
    have hlast := Position.atLast_eq_false_of_lt (q := s.pos) (by omega)
    have hnext : (advanceStatement Config.params s).pos.place = s.pos.place + 1 := Position.place_nextStatement hlast
    rw [coreRun_succ, coreStep_compress hl hop, compressStep_of_not_last hlast,
      ih (s := advanceStatement Config.params s) hl (by omega)]
    rfl

theorem coreRun_compress_busy {s : State} {l : Latch} (hl : s.curOp = some l) (hop : l.op = .compress) {n : Nat}
    (h : s.pos.place + n ≤ 767) : (coreRun n s).busy = true := by
  rw [coreRun_compress hl hop n h]
  exact busy_of_some _ l ((iterate_advanceStatement_curOp Config.params n s).trans hl)

/-- A COMPRESS left running performs the statements from its position on, and the last one completes it. -/
theorem coreRun_compress_end {s : State} {l : Latch} (hl : s.curOp = some l) (hop : l.op = .compress) {n : Nat}
    (h : s.pos.place + n = 767) :
    coreRun (n + 1) s =
      complete .ok { s with S := statementsFrom Config.params s.M s.pos.place s.S, pos := roundsEnd s.pos } := by
  have hwhole := statementAt_iterate_advance Config.params n s h
  have hpos : ((advanceStatement Config.params)^[n] s).pos = roundsEnd s.pos := congrArg State.pos hwhole
  have hlast : ((advanceStatement Config.params)^[n] s).pos.atLast = true := congrArg Position.atLast hpos
  have hcur := (iterate_advanceStatement_curOp Config.params n s).trans hl
  rw [coreRun_add n 1, coreRun_compress hl hop n h.le, coreRun_succ, coreRun_zero, coreStep_compress hcur hop,
    compressStep_of_last hlast, hwhole]

theorem coreRun_compress_whole {s : State} {l : Latch} (hl : s.curOp = some l) (hop : l.op = .compress)
    (h : s.pos.place = 0) : coreRun 768 s = ruleCompress Config.params s := by
  rw [coreRun_compress_end (n := 767) hl hop (by omega), h, statementsFrom_zero]
  rfl

/-- Settles O52: START sets the position to place 0, and the whole rule does not look at the inputs to come. -/
theorem compressStepsReachTheWhole : Obligations.CompressStepsReachTheWhole := by
  intro irqEn cin rot s x rest hidle
  let rule : Latch → State → State := fun _ => ruleCompress Config.params
  refine ⟨_, _, startOp_left_running .compress irqEn cin rot rule _ hidle (List.cons_ne_nil x rest), fun n hn => ?_,
    startOp_whole .compress irqEn cin rot rule _ hidle rfl, ?_⟩
  · exact coreRun_compress_busy rfl rfl (by rw [acceptStart_pos, Position.place_startPosition]; omega)
  · exact coreRun_compress_whole rfl rfl rfl

/-! ### The operations LOADIV, MIX and COMPRESS (41_mix_compress.md R79 to R81) -/

/-- Settles O27: IV_TABLE is written between an accepted START and the completion that undoes its latch. -/
theorem loadivCompletes : Obligations.LoadivCompletes := by
  intro irqEn cin rot s hidle hinputs
  refine (startOp_whole .loadiv irqEn cin rot (fun _ => ruleLoadiv Config.params) s hidle hinputs).trans ?_
  rw [acceptStart_of_ne (by decide) (by decide), (busy_eq_false_iff s).mp hidle, ruleLoadiv, writeLoadiv, ivFile]
  rfl

/-- Settles O28: likewise, with the mix on the sampled indices. -/
theorem mixCompletes : Obligations.MixCompletes := by
  intro irqEn cin rot s hidle hinputs
  refine (startOp_whole .mix irqEn cin rot ruleMix s hidle hinputs).trans ?_
  rw [acceptStart_of_ne (by decide) (by decide), (busy_eq_false_iff s).mp hidle]
  rfl

/-- Settles O29: likewise, where START moves the sequencer to the first statement and the rule leaves it at the last. -/
theorem compressCompletes : Obligations.CompressCompletes := by
  intro irqEn cin rot s hidle hinputs
  refine (startOp_whole .compress irqEn cin rot (fun _ => ruleCompress Config.params) s hidle hinputs).trans ?_
  rw [acceptStart, decide_eq_true (by decide), Bool.and_true, (busy_eq_false_iff s).mp hidle]
  rfl

end Sys2Proof.Machine
end

section
/-! PROOF. The search by its whole rule: the order of its visits, its coordinates, the end of its scan, and format P's zero
(O30 to O35, O48, O49). -/

namespace Sys2Proof.Machine

/-! ### Coordinates and results (42_search.md R83, R84, R93) -/

theorem toNat_pos_of_ne_zero {bs : Word32} (h : bs ≠ 0) : 0 < bs.toNat :=
  bs.toNat_pos.mpr (bs.pos_iff_ne_zero.mpr h)

theorem visitXX_toNat {bs : Word32} (h : bs ≠ 0) (n : Nat) : (visitXX bs n).toNat = n % bs.toNat := by
  have := Nat.mod_lt n (toNat_pos_of_ne_zero h)
  exact Nat.mod_eq_of_lt (this.trans bs.isLt)

theorem visitYY_toNat {bs : Word32} {n : Nat} (h : n < bs.toNat * bs.toNat) : (visitYY bs n).toNat = n / bs.toNat :=
  Nat.mod_eq_of_lt ((Nat.div_lt_of_lt_mul h).trans bs.isLt)

/-- Settles O35: visit n is remainder and quotient of n by BLOCK_SIZE. -/
theorem visitsAreRowMajor : Obligations.VisitsAreRowMajor := by
  intro bs n hbs hn
  rw [BitVec.lt_def, BitVec.lt_def, visitXX_toNat hbs, visitYY_toNat hn]
  exact ⟨Nat.div_add_mod' .., Nat.mod_lt _ (toNat_pos_of_ne_zero hbs), Nat.div_lt_of_lt_mul hn⟩

/-- A column and a row have their visit (R83). -/
theorem visit_of_coordinate {bs xx yy : Word32} (hx : xx < bs) {n : Nat}
    (hn : n = yy.toNat * bs.toNat + xx.toNat) : visitXX bs n = xx ∧ visitYY bs n = yy := by
  have hpos : 0 < bs.toNat := Nat.zero_lt_of_lt hx
  obtain ⟨hdiv, hmod⟩ := (Nat.div_mod_unique hpos (a := n)).mpr ⟨by rw [hn, Nat.mul_comm, Nat.add_comm], hx⟩
  rw [visitXX, visitYY, hdiv, hmod, BitVec.ofNat_toNat, BitVec.ofNat_toNat, BitVec.setWidth_eq, BitVec.setWidth_eq]
  exact ⟨rfl, rfl⟩

theorem udiv_umod_toNat (u : Word32) {bs : Word32} (h : bs ≠ 0) :
    (u / bs).toNat * bs.toNat + (u % bs).toNat = u.toNat ∧ (u % bs).toNat < bs.toNat := by
  rw [BitVec.toNat_udiv, BitVec.toNat_umod]
  exact ⟨Nat.div_add_mod' .., Nat.mod_lt _ (toNat_pos_of_ne_zero h)⟩

/-- Settles O49: the division of each wrapped sum by BLOCK_SIZE. -/
theorem coordinateIsQuotientAndRemainder : Obligations.CoordinateIsQuotientAndRemainder := by
  intro P xx yy hbs c bs
  obtain ⟨hx, hxlt⟩ := udiv_umod_toNat (readParam P .offsetX + xx) hbs
  obtain ⟨hy, hylt⟩ := udiv_umod_toNat (readParam P .offsetY + yy) hbs
  rw [BitVec.toNat_add] at hx hy
  exact ⟨hx, hxlt, hy, hylt⟩

theorem lane_eq_zero_iff (v : Word32) : v.extractLsb' 0 8 = 0 ↔ v.toNat % 256 = 0 := by
  rw [← BitVec.toNat_inj, BitVec.extractLsb'_toNat]
  rfl

theorem wordOfLanes_eq_zero_iff (l0 l1 l2 l3 : Byte) :
    wordOfLanes l0 l1 l2 l3 = 0 ↔ l0 = 0 ∧ l1 = 0 ∧ l2 = 0 ∧ l3 = 0 := by
  constructor
  · intro h
    obtain ⟨h0, h1, h2, h3⟩ := wordOfLanes_lanes l0 l1 l2 l3
    rw [h] at h0 h1 h2 h3
    exact ⟨h0.symm, h1.symm, h2.symm, h3.symm⟩
  · rintro ⟨rfl, rfl, rfl, rfl⟩
    rfl

/-- Settles O48: a joined word is 0 when each lane is, and in the example both indices are 255 and both positions 0. -/
theorem successCanEncodeAsZero : Obligations.SuccessCanEncodeAsZero := by
  refine ⟨fun c => ?_, fun P hbs hx hy => ?_⟩
  · simp only [encodeP_eq_wordOfLanes, wordOfLanes_eq_zero_iff, lane_eq_zero_iff]
  · rw [coordOf, hbs, hx, hy]
    decide

/-! ### The scan (42_search.md R83, R85 to R90, R94) -/

/-- The check of visit n exceeds DIFFICULTY (R88). -/
def VisitSucceeds (p : Params) (P : ParamFile) (n : Nat) : Prop := readParam P .difficulty < visitCheck p P n

/-- Visit n is the first, in scan order, to succeed (R89). -/
def FirstSuccess (p : Params) (P : ParamFile) (n : Nat) : Prop :=
  n < visitCount P ∧ VisitSucceeds p P n ∧ ∀ m, m < n → ¬ VisitSucceeds p P m

/-- No visit of the block succeeds (R90). -/
def BlockFails (p : Params) (P : ParamFile) : Prop := ∀ m, m < visitCount P → ¬ VisitSucceeds p P m

theorem firstSuccess_or_blockFails (p : Params) (P : ParamFile) : (∃ n, FirstSuccess p P n) ∨ BlockFails p P := by
  classical
  by_cases h : ∃ n, n < visitCount P ∧ VisitSucceeds p P n
  · obtain ⟨hlt, hsucceeds⟩ := Nat.find_spec h
    exact .inl ⟨Nat.find h, hlt, hsucceeds, fun m hm hs => Nat.find_min h hm ⟨hm.trans hlt, hs⟩⟩
  · exact .inr fun m hm hs => h ⟨m, hm, hs⟩

theorem visitCount_pos {P : ParamFile} (h : readParam P .blockSize ≠ 0) : 0 < visitCount P :=
  Nat.mul_pos (toNat_pos_of_ne_zero h) (toNat_pos_of_ne_zero h)

/-- The state after visit n: the registers of this visit alone, whatever the earlier ones left (R92, R94). -/
def afterVisit (p : Params) (n : Nat) (s : State) : State :=
  { s with
    S := visitFile p s.params n
    M := visitMessage s.params n
    check := visitCheck p s.params n
    pos := visitEnd s.params n }

/-- The state after a success at visit n (R89). -/
def afterSuccess (p : Params) (n : Nat) (s : State) : State :=
  reportFound (visitXX (readParam s.params .blockSize) n) (visitYY (readParam s.params .blockSize) n) (afterVisit p n s)

theorem visit_eq_afterVisit (p : Params) (n : Nat) (s : State) :
    visit p (visitXX (readParam s.params .blockSize) n) (visitYY (readParam s.params .blockSize) n) s = afterVisit p n s :=
  rfl

theorem exceeds_iff (check difficulty : Word32) : exceeds check difficulty = true ↔ difficulty < check :=
  BitVec.ult_iff_lt

theorem scan_of_success {p : Params} {n : Nat} {s : State} (h : VisitSucceeds p s.params n) (fuel : Nat) :
    scan p (fuel + 1) n s = afterSuccess p n s := by
  rw [scan_succ, visit_eq_afterVisit]
  exact if_pos ((exceeds_iff ..).mpr h)

theorem scan_of_failure {p : Params} {n : Nat} {s : State} (h : ¬ VisitSucceeds p s.params n) (fuel : Nat) :
    scan p (fuel + 1) n s = scan p fuel (n + 1) (afterVisit p n s) := by
  rw [scan_succ, visit_eq_afterVisit]
  exact if_neg fun e => h ((exceeds_iff ..).mp e)

/-- A scan with a visit to come does not depend on what the visit writes (R94). -/
theorem scan_forgets (p : Params) (fuel n : Nat) (s : State) (S M : WordFile) (check : Word32) (q : Position) :
    scan p (fuel + 1) n { s with S := S, M := M, check := check, pos := q } = scan p (fuel + 1) n s := rfl

/-- The scan passes over visits that fail. -/
theorem scan_skip {p : Params} {k : Nat} {s : State} (h : ∀ m, m < k → ¬ VisitSucceeds p s.params m) (fuel : Nat) :
    scan p (k + (fuel + 1)) 0 s = scan p (fuel + 1) k s := by
  induction k generalizing fuel with
  | zero => rw [Nat.zero_add]
  | succ k ih =>
    calc scan p (k + 1 + (fuel + 1)) 0 s = scan p (fuel + 1 + 1) k s := by
          rw [Nat.add_assoc, Nat.add_comm 1, ih (fun m hm => h m (by omega))]
      _ = scan p (fuel + 1) (k + 1) (afterVisit p k s) := scan_of_failure (h k (by omega)) _
      _ = scan p (fuel + 1) (k + 1) s := scan_forgets ..

theorem scan_of_firstSuccess {p : Params} {s : State} {n : Nat} (h : FirstSuccess p s.params n) :
    scan p (visitCount s.params) 0 s = afterSuccess p n s := by
  obtain ⟨hlt, hsucceeds, hfirst⟩ := h
  obtain ⟨fuel, hfuel⟩ := Nat.exists_eq_add_of_lt hlt
  rw [hfuel, Nat.add_assoc, scan_skip hfirst, scan_of_success hsucceeds]

theorem scan_of_blockFails {p : Params} {s : State} (hbs : readParam s.params .blockSize ≠ 0)
    (h : BlockFails p s.params) :
    scan p (visitCount s.params) 0 s = reportNone (afterVisit p (visitCount s.params - 1) s) := by
  have hpos := visitCount_pos hbs
  have hcount : visitCount s.params = visitCount s.params - 1 + (0 + 1) := by omega
  rw [hcount, scan_skip (fun m hm => h m (by omega)), scan_of_failure (h _ (by omega)), scan_zero]
  rfl

/-! ### The operation SEARCH (42_search.md R82, R89 to R92) -/

theorem ruleSearch_of_zero {p : Params} {s : State} (h : readParam s.params .blockSize = 0) :
    ruleSearch p s = complete .invalidArg s := if_pos h

theorem ruleSearch_of_ne_zero {p : Params} {s : State} (h : readParam s.params .blockSize ≠ 0) :
    ruleSearch p s = complete .ok (scan p (visitCount s.params) 0 s) := if_neg h

theorem ruleSearch_of_firstSuccess {p : Params} {s : State} (hbs : readParam s.params .blockSize ≠ 0) {n : Nat}
    (h : FirstSuccess p s.params n) : ruleSearch p s = complete .ok (afterSuccess p n s) := by
  rw [ruleSearch_of_ne_zero hbs, scan_of_firstSuccess h]

theorem ruleSearch_of_blockFails {p : Params} {s : State} (hbs : readParam s.params .blockSize ≠ 0)
    (h : BlockFails p s.params) :
    ruleSearch p s = complete .ok (reportNone (afterVisit p (visitCount s.params - 1) s)) := by
  rw [ruleSearch_of_ne_zero hbs, scan_of_blockFails hbs h]

/-- The state after an accepted START of SEARCH: FOUND is cleared and the sequencer starts anew (43_control.md R99). -/
def searchStarted (irqEn cin : Bool) (rot : BitVec 6) (s : State) : State :=
  { s with
    ctrl := ⟨irqEn, cin, 0x4, rot⟩
    status := { s.status with done := false, err := 0, found := false }
    curOp := some ⟨.search, cin, rot, s.mixSel⟩
    pos := Position.start }

theorem acceptStart_search (irqEn cin : Bool) (rot : BitVec 6) (s : State) :
    acceptStart .search (setCtrl irqEn cin Op.search.code rot s) = searchStarted irqEn cin rot s := by
  rw [acceptStart, decide_eq_false (by decide), Bool.and_false]
  rfl

theorem exec_search_whole (irqEn cin : Bool) (rot : BitVec 6) {s : State} (hidle : s.busy = false) (hinputs : s.inputs = []) :
    exec (.search irqEn cin rot) s = .next (ruleSearch Config.params (searchStarted irqEn cin rot s)) := by
  rw [← acceptStart_search]
  exact startOp_whole .search irqEn cin rot (fun _ => ruleSearch Config.params) s hidle hinputs

/-- The state in which a SEARCH from `s` ends after visit n as its last (R89, R90, R92). -/
def searchEnd (irqEn cin : Bool) (rot : BitVec 6) (found : Bool) (result : Word32) (n : Nat) (s : State) : State :=
  { s with
    ctrl := ⟨irqEn, cin, 0x4, rot⟩
    status := { s.status with done := true, err := 0, found := found }
    result := result
    check := visitCheck Config.params s.params n
    S := visitFile Config.params s.params n
    M := visitMessage s.params n
    pos := visitEnd s.params n }

/-- RESULT of a success at visit n (R89). -/
def visitResult (P : ParamFile) (n : Nat) : Word32 :=
  encodeP (coordOf P (visitXX (readParam P .blockSize) n) (visitYY (readParam P .blockSize) n))

section
variable {irqEn cin : Bool} {rot : BitVec 6} {s : State} (hidle : s.busy = false) (hinputs : s.inputs = [])
include hidle hinputs

theorem exec_search_of_zero (hbs : readParam s.params .blockSize = 0) :
    exec (.search irqEn cin rot) s = .next
      { s with
        ctrl := ⟨irqEn, cin, 0x4, rot⟩
        status := { s.status with done := true, err := 1, found := false }
        pos := Position.start } := by
  rw [exec_search_whole irqEn cin rot hidle hinputs, ruleSearch_of_zero (s := searchStarted irqEn cin rot s) hbs,
    (busy_eq_false_iff s).mp hidle]
  rfl

theorem exec_search_of_firstSuccess (hbs : readParam s.params .blockSize ≠ 0) {n : Nat}
    (h : FirstSuccess Config.params s.params n) :
    exec (.search irqEn cin rot) s = .next (searchEnd irqEn cin rot true (visitResult s.params n) n s) := by
  rw [exec_search_whole irqEn cin rot hidle hinputs,
    ruleSearch_of_firstSuccess (s := searchStarted irqEn cin rot s) hbs h, searchEnd, (busy_eq_false_iff s).mp hidle]
  rfl

theorem exec_search_of_blockFails (hbs : readParam s.params .blockSize ≠ 0) (h : BlockFails Config.params s.params) :
    exec (.search irqEn cin rot) s = .next (searchEnd irqEn cin rot false 0 (visitCount s.params - 1) s) := by
  rw [exec_search_whole irqEn cin rot hidle hinputs,
    ruleSearch_of_blockFails (s := searchStarted irqEn cin rot s) hbs h, searchEnd, (busy_eq_false_iff s).mp hidle]
  rfl

/-- SEARCH answers a state, whose FOUND says whether some visit succeeds (R95). -/
theorem exec_search_found (irqEn cin : Bool) (rot : BitVec 6) (hbs : readParam s.params .blockSize ≠ 0) :
    ∃ t : State, exec (.search irqEn cin rot) s = .next t ∧
      (t.status.found = true ↔ ∃ n, n < visitCount s.params ∧ VisitSucceeds Config.params s.params n) := by
  rcases firstSuccess_or_blockFails Config.params s.params with ⟨n, hfirst⟩ | hfails
  · have ⟨hlt, hsucceeds, _⟩ := hfirst
    exact ⟨_, exec_search_of_firstSuccess hidle hinputs hbs hfirst, fun _ => ⟨n, hlt, hsucceeds⟩, fun _ => rfl⟩
  · exact ⟨_, exec_search_of_blockFails hidle hinputs hbs hfails, nofun, fun ⟨n, hlt, hs⟩ => absurd hs (hfails n hlt)⟩

end

/-- Settles O30: a refused search only starts and completes. -/
theorem searchRefusesBlockSizeZero : Obligations.SearchRefusesBlockSizeZero :=
  fun _ _ _ _ hidle hinputs hbs => exec_search_of_zero hidle hinputs hbs

/-- The last visit of a block is the coordinate (bs - 1, bs - 1) (R92). -/
theorem visit_last {bs : Word32} (h : bs ≠ 0) :
    visitXX bs (bs.toNat * bs.toNat - 1) = bs - 1 ∧ visitYY bs (bs.toNat * bs.toNat - 1) = bs - 1 := by
  have hpos := toNat_pos_of_ne_zero h
  have hpred : (bs - 1).toNat = bs.toNat - 1 := BitVec.toNat_sub_of_le hpos
  have hlt : bs - 1 < bs := by
    rw [BitVec.lt_def]
    omega
  refine visit_of_coordinate hlt ?_
  have := Nat.le_mul_self bs.toNat
  rw [hpred, Nat.sub_one_mul]
  omega

theorem visitFile_config (P : ParamFile) (n : Nat) :
    visitFile Config.params P n = compressFile Config.params (visitMessage P n) (Vector.ofFn Config.ivTable) := by
  rw [visitFile, ivFile]
  rfl

theorem visitCheck_config (P : ParamFile) (n : Nat) :
    visitCheck Config.params P n =
      let S := compressFile Config.params (visitMessage P n) (Vector.ofFn Config.ivTable)
      Config.checkConst ^^^ S[0].extractLsb' 0 32 ^^^ S[8].extractLsb' 0 32 := by
  rw [visitCheck, visitFile_config]
  rfl

/-- Settles O31: the scan ends at the first success, or fails at every visit of the block and ends with the last. -/
theorem searchScansTheBlock : Obligations.SearchScansTheBlock := by
  intro irqEn cin rot s hidle hinputs hbs bs d count coord M S c
  have hc : ∀ n, visitCheck Config.params s.params n = c n := visitCheck_config s.params
  have hS : ∀ n, visitFile Config.params s.params n = S n := visitFile_config s.params
  refine ⟨?_, hc⟩
  rcases firstSuccess_or_blockFails Config.params s.params with ⟨n, hfirst⟩ | hfails
  · have hexec := exec_search_of_firstSuccess (irqEn := irqEn) (cin := cin) (rot := rot) hidle hinputs hbs hfirst
    obtain ⟨hlt, hsucceeds, hbefore⟩ := hfirst
    simp only [VisitSucceeds, hc] at hsucceeds hbefore
    rw [searchEnd, hc, hS] at hexec
    exact .inl ⟨n, hlt, hsucceeds, hbefore, hexec⟩
  · have hexec := exec_search_of_blockFails (irqEn := irqEn) (cin := cin) (rot := rot) hidle hinputs hbs hfails
    obtain ⟨hxx, hyy⟩ := visit_last hbs
    simp only [BlockFails, VisitSucceeds, hc] at hfails
    rw [searchEnd, hc, hS, visitEnd, visitCount, hxx, hyy] at hexec
    exact .inr ⟨hfails, hxx, hyy, hexec⟩

/-- Settles O32: no check exceeds the largest word. -/
theorem maximalDifficultyNeverSucceeds : Obligations.MaximalDifficultyNeverSucceeds := by
  intro irqEn cin rot s hidle hinputs hbs hd
  have hfails : BlockFails Config.params s.params := fun m _ hs => by
    rw [VisitSucceeds, hd] at hs
    exact absurd hs (BitVec.not_allOnes_lt (x := visitCheck Config.params s.params m))
  exact ⟨_, exec_search_of_blockFails hidle hinputs hbs hfails, rfl, rfl, rfl, hidle⟩

/-- Settles O33: which visit ends the scan, and what it writes, are functions of the parameter registers. -/
theorem searchDependsOnlyOnParameters : Obligations.SearchDependsOnlyOnParameters := by
  intro irqEn cin irqEn' cin' rot rot' s u hs hsi hu hui hparams hbs
  have hbs' : readParam u.params .blockSize ≠ 0 := hparams ▸ hbs
  rcases firstSuccess_or_blockFails Config.params s.params with ⟨n, hfirst⟩ | hfails
  · refine ⟨_, _, exec_search_of_firstSuccess hs hsi hbs hfirst,
      exec_search_of_firstSuccess hu hui hbs' (hparams ▸ hfirst), ?_⟩
    simp only [searchEnd, hparams, and_self]
  · refine ⟨_, _, exec_search_of_blockFails hs hsi hbs hfails,
      exec_search_of_blockFails hu hui hbs' (hparams ▸ hfails), ?_⟩
    simp only [searchEnd, hparams, and_self]

theorem visitCount_writeDifficulty (P : ParamFile) (d : Word32) :
    visitCount (writeParam P .difficulty d) = visitCount P := by
  rw [visitCount, readParam_writeParam_ne _ _ _ _ (by decide), visitCount]

/-- The check of a visit does not depend on DIFFICULTY (R86, R88). -/
theorem visitCheck_writeDifficulty (p : Params) (P : ParamFile) (d : Word32) (n : Nat) :
    visitCheck p (writeParam P .difficulty d) n = visitCheck p P n := by
  have hkeep (q : Param) (hq : Param.difficulty ≠ q) : readParam (writeParam P .difficulty d) q = readParam P q :=
    readParam_writeParam_ne P _ q d hq
  have hmessage : visitMessage (writeParam P .difficulty d) n = visitMessage P n := by
    simp [visitMessage, buildMessage, coordOf, packP0, packP1, hkeep]
  rw [visitCheck, visitFile, hmessage, visitCheck, visitFile]

/-- Settles O34: a check that exceeds DIFFICULTY exceeds every lower one. -/
theorem difficultyIsMonotone : Obligations.DifficultyIsMonotone := by
  intro irqEn cin rot s lower hidle hinputs hbs hle
  have hbs' : readParam (writeParam s.params .difficulty lower) .blockSize ≠ 0 := by
    rwa [readParam_writeParam_ne _ _ _ _ (by decide)]
  obtain ⟨t, ht, hfound⟩ := exec_search_found hidle hinputs irqEn cin rot hbs
  obtain ⟨u, hu, hfound'⟩ := exec_search_found (s := { s with params := writeParam s.params .difficulty lower })
    hidle hinputs irqEn cin rot hbs'
  refine ⟨t, u, ht, hu, hfound, fun h => hfound'.mpr ?_⟩
  obtain ⟨n, hlt, hs⟩ := hfound.mp h
  refine ⟨n, by rwa [visitCount_writeDifficulty], ?_⟩
  rw [VisitSucceeds, readParam_writeParam_self, visitCheck_writeDifficulty]
  exact Nat.lt_of_le_of_lt hle hs

end Sys2Proof.Machine
end

section
/-! PROOF. The search step by step: the phases of a visit, the order of the visits, and the whole rule (O53). -/

namespace Sys2Proof.Machine

/-- A SEARCH that was not refused is running. -/
def SearchRuns (s : State) : Prop :=
  (∃ l, s.curOp = some l ∧ l.op = .search) ∧ readParam s.params .blockSize ≠ 0

/-- The sequencer stands before visit n (42_search.md R97). -/
def VisitStarts (n : Nat) (s : State) : Prop :=
  s.pos.phase = .load ∧ s.pos.xx = visitXX (readParam s.params .blockSize) n ∧
    s.pos.yy = visitYY (readParam s.params .blockSize) n

/-! ### One step in each phase (42_search.md R97) -/

theorem coreStep_search {s : State} (h : ∃ l, s.curOp = some l ∧ l.op = .search) :
    coreStep s = searchStep Config.params s := by
  obtain ⟨l, hl, hop⟩ := h
  rw [coreStep_running s l hl, hop]

theorem coreStep_load {s : State} (h : SearchRuns s) (hphase : s.pos.phase = .load) :
    coreStep s = { s with S := ivFile Config.params, pos := { s.pos with phase := .build } } := by
  rw [coreStep_search h.1, searchStep, if_neg h.2, hphase]

theorem coreStep_build {s : State} (h : SearchRuns s) (hphase : s.pos.phase = .build) :
    coreStep s =
      { s with
        M := buildMessage s.params (coordOf s.params s.pos.xx s.pos.yy)
        pos := { s.pos with phase := .rounds, r := 0, i := 0, k := 0 } } := by
  rw [coreStep_search h.1, searchStep, if_neg h.2, hphase]

theorem coreStep_rounds {s : State} (h : SearchRuns s) (hphase : s.pos.phase = .rounds) (hlast : s.pos.atLast = false) :
    coreStep s = advanceStatement Config.params s := by
  rw [coreStep_search h.1, searchStep, if_neg h.2, hphase]
  exact if_neg (ne_true_of_eq_false hlast)

theorem coreStep_rounds_last {s : State} (h : SearchRuns s) (hphase : s.pos.phase = .rounds) (hlast : s.pos.atLast = true) :
    coreStep s = { statementAt Config.params s with pos := { s.pos with phase := .test } } := by
  rw [coreStep_search h.1, searchStep, if_neg h.2, hphase]
  exact if_pos hlast

theorem coreStep_test {s : State} (h : SearchRuns s) (hphase : s.pos.phase = .test) :
    coreStep s = searchTest Config.params s := by
  rw [coreStep_search h.1, searchStep, if_neg h.2, hphase]

/-! ### One visit (42_search.md R84 to R89, R97) -/

theorem coreRun_load_build {n : Nat} {s : State} (h : SearchRuns s) (hstart : VisitStarts n s) :
    coreRun 2 s =
      { s with
        S := ivFile Config.params
        M := visitMessage s.params n
        pos := { visitEnd s.params n with phase := .rounds, r := 0, i := 0, k := 0 } } := by
  obtain ⟨hphase, hxx, hyy⟩ := hstart
  rw [coreRun_succ, coreStep_load h hphase, coreRun_succ, coreStep_build, coreRun_zero, visitMessage, visitEnd,
    ← hxx, ← hyy]
  · exact h
  · rfl

theorem coreRun_rounds {s : State} (h : SearchRuns s) (hphase : s.pos.phase = .rounds) (n : Nat)
    (hn : s.pos.place + n ≤ 767) : coreRun n s = (advanceStatement Config.params)^[n] s := by
  induction n generalizing s with
  | zero => rfl
  | succ n ih =>
    have hlast := Position.atLast_eq_false_of_lt (q := s.pos) (by omega)
    have hnext : (advanceStatement Config.params s).pos.place = s.pos.place + 1 := Position.place_nextStatement hlast
    have hphase' : (advanceStatement Config.params s).pos.phase = .rounds :=
      (congrArg Position.phase s.pos.roundsEnd_nextStatement).trans hphase
    rw [coreRun_succ, coreStep_rounds h hphase hlast, ih (s := advanceStatement Config.params s) h hphase' (by omega)]
    rfl

/-- ROUNDS performs the statements from its position on, as COMPRESS does, and ends in TEST (R87). -/
theorem coreRun_rounds_end {s : State} (h : SearchRuns s) (hphase : s.pos.phase = .rounds) {n : Nat}
    (hn : s.pos.place + n = 767) :
    coreRun (n + 1) s =
      { s with
        S := statementsFrom Config.params s.M s.pos.place s.S
        pos := { roundsEnd s.pos with phase := .test } } := by
  have hwhole := statementAt_iterate_advance Config.params n s hn
  have hruns : SearchRuns ((advanceStatement Config.params)^[n] s) := (congrArg SearchRuns hwhole).mpr h
  have hpos : ((advanceStatement Config.params)^[n] s).pos = roundsEnd s.pos := congrArg State.pos hwhole
  rw [coreRun_add n 1, coreRun_rounds h hphase n hn.le, coreRun_succ, coreRun_zero,
    coreStep_rounds_last hruns ((congrArg Position.phase hpos).trans hphase) (congrArg Position.atLast hpos), hwhole, hpos]

theorem coreRun_rounds_whole {s : State} (h : SearchRuns s) (hphase : s.pos.phase = .rounds) (hplace : s.pos.place = 0) :
    coreRun 768 s =
      { s with S := compressFile Config.params s.M s.S, pos := { roundsEnd s.pos with phase := .test } } := by
  rw [coreRun_rounds_end (n := 767) h hphase (by omega), hplace, statementsFrom_zero]

/-- The steps of a visit up to its TEST leave what the visit leaves, but for CHECK. -/
theorem coreRun_visit {n : Nat} {s : State} (h : SearchRuns s) (hstart : VisitStarts n s) :
    coreRun 771 s = searchTest Config.params { afterVisit Config.params n s with check := s.check } := by
  rw [show 771 = 2 + (768 + 1) from rfl, coreRun_add, coreRun_load_build h hstart, coreRun_add, coreRun_rounds_whole,
    coreRun_succ, coreRun_zero, coreStep_test, afterVisit, visitFile]
  · rfl
  · exact h
  · rfl
  · exact h
  · rfl
  · rfl

theorem searchTest_of_success {p : Params} {n : Nat} {s : State} (h : VisitSucceeds p s.params n) :
    searchTest p { afterVisit p n s with check := s.check } = complete .ok (afterSuccess p n s) :=
  if_pos ((exceeds_iff ..).mpr h)

theorem searchTest_of_failure {p : Params} {n : Nat} {s : State} (h : ¬ VisitSucceeds p s.params n) :
    searchTest p { afterVisit p n s with check := s.check } = searchAdvance (afterVisit p n s) :=
  if_neg fun e => h ((exceeds_iff ..).mp e)

/-! ### From visit to visit (42_search.md R83, R90, R97) -/

theorem toNat_add_one_of_lt {x bs : Word32} (h : x < bs) : (x + 1).toNat = x.toNat + 1 := by bv_omega

/-- Visit n + 1 is the next coordinate of the row, or the first of the next row, or outside the block. -/
theorem visit_succ {bs : Word32} (hbs : bs ≠ 0) {n : Nat} (hn : n < bs.toNat * bs.toNat) :
    (visitXX bs n + 1 < bs ∧ n + 1 < bs.toNat * bs.toNat ∧
      visitXX bs (n + 1) = visitXX bs n + 1 ∧ visitYY bs (n + 1) = visitYY bs n) ∨
    (¬ visitXX bs n + 1 < bs ∧ visitYY bs n + 1 < bs ∧ n + 1 < bs.toNat * bs.toNat ∧
      visitXX bs (n + 1) = 0 ∧ visitYY bs (n + 1) = visitYY bs n + 1) ∨
    (¬ visitXX bs n + 1 < bs ∧ ¬ visitYY bs n + 1 < bs ∧ n + 1 = bs.toNat * bs.toNat) := by
  obtain ⟨hplace, hxx, hyy⟩ := visitsAreRowMajor bs n hbs hn
  have hx1 := toNat_add_one_of_lt hxx
  have hy1 := toNat_add_one_of_lt hyy
  have hrow : ((visitYY bs n).toNat + 1) * bs.toNat ≤ bs.toNat * bs.toNat := Nat.mul_le_mul_right _ hyy
  have hsucc := Nat.add_one_mul (visitYY bs n).toNat bs.toNat
  by_cases hcol : visitXX bs n + 1 < bs
  · refine .inl ⟨hcol, ?_, visit_of_coordinate hcol (by omega)⟩
    rw [BitVec.lt_def] at hcol
    omega
  · have hend : n + 1 = (visitYY bs n + 1).toNat * bs.toNat := by
      rw [BitVec.lt_def] at hcol hxx
      rw [hy1, hsucc]
      omega
    by_cases hnext : visitYY bs n + 1 < bs
    · have hlt : n + 1 < bs.toNat * bs.toNat := hend ▸ Nat.mul_lt_mul_of_pos_right hnext (toNat_pos_of_ne_zero hbs)
      exact .inr (.inl ⟨hcol, hnext, hlt, visit_of_coordinate (toNat_pos_of_ne_zero hbs) hend⟩)
    · have hlast : (visitYY bs n + 1).toNat = bs.toNat := by
        rw [BitVec.lt_def] at hnext hyy
        omega
      exact .inr (.inr ⟨hcol, hnext, by rw [hend, hlast]⟩)

/-- After a failed visit the sequencer stands before the next one, or the block is exhausted. -/
theorem searchAdvance_afterVisit (p : Params) {n : Nat} {s : State} (hbs : readParam s.params .blockSize ≠ 0)
    (hn : n < visitCount s.params) :
    (n + 1 < visitCount s.params ∧ ∃ q, VisitStarts (n + 1) { s with pos := q } ∧
      searchAdvance (afterVisit p n s) = { afterVisit p n s with pos := q }) ∨
    (n + 1 = visitCount s.params ∧ searchAdvance (afterVisit p n s) = complete .ok (reportNone (afterVisit p n s))) := by
  rcases visit_succ hbs hn with ⟨hcol, hlt, hxx, hyy⟩ | ⟨hcol, hrow, hlt, hxx, hyy⟩ | ⟨hcol, hrow, hlast⟩
  · exact .inl ⟨hlt, _, ⟨rfl, hxx.symm, hyy.symm⟩, if_pos hcol⟩
  · exact .inl ⟨hlt, _, ⟨rfl, hxx.symm, hyy.symm⟩, (if_neg hcol).trans (if_pos hrow)⟩
  · exact .inr ⟨hlast, (if_neg hcol).trans (if_neg hrow)⟩

/-- One visit ends the scan from it on, or leaves the scan to the next visit of the block. -/
theorem coreRun_visit_cases {s : State} {n fuel : Nat} (h : SearchRuns s) (hstart : VisitStarts n s)
    (hfuel : n + (fuel + 1) = visitCount s.params) :
    coreRun 771 s = complete .ok (scan Config.params (fuel + 1) n s) ∨
    ∃ (t : State) (k : Nat), coreRun 771 s = t ∧ fuel = k + 1 ∧ SearchRuns t ∧ VisitStarts (n + 1) t ∧
      t.params = s.params ∧ scan Config.params (fuel + 1) n s = scan Config.params (k + 1) (n + 1) t := by
  rw [coreRun_visit h hstart]
  by_cases hsucceeds : VisitSucceeds Config.params s.params n
  · exact .inl (by rw [searchTest_of_success hsucceeds, scan_of_success hsucceeds])
  · rw [searchTest_of_failure hsucceeds, scan_of_failure hsucceeds]
    rcases searchAdvance_afterVisit Config.params h.2 (show n < visitCount s.params by omega) with
      ⟨hlt, q, hnext, hadvance⟩ | ⟨hlast, hadvance⟩
    · obtain ⟨k, rfl⟩ : ∃ k, fuel = k + 1 := Nat.exists_eq_add_one.mpr (by omega)
      exact .inr ⟨_, k, hadvance, rfl, h, hnext, rfl, rfl⟩
    · obtain rfl : fuel = 0 := by omega
      exact .inl hadvance

/-- From the start of a visit, the steps of the core perform the rest of the scan (R91, R96). -/
theorem coreRun_scan {s : State} {n fuel : Nat} (h : SearchRuns s) (hstart : VisitStarts n s)
    (hfuel : n + (fuel + 1) = visitCount s.params) :
    ∃ m, m ≤ 771 * (fuel + 1) ∧ coreRun m s = complete .ok (scan Config.params (fuel + 1) n s) := by
  induction fuel generalizing n s with
  | zero =>
    rcases coreRun_visit_cases h hstart hfuel with hend | ⟨_, _, _, hzero, _⟩
    · exact ⟨771, by omega, hend⟩
    · exact absurd hzero (by omega)
  | succ fuel ih =>
    rcases coreRun_visit_cases h hstart hfuel with hend | ⟨t, k, hvisit, hk, hruns, hnext, hparams, hscan⟩
    · exact ⟨771, by omega, hend⟩
    · obtain rfl : fuel = k := by omega
      obtain ⟨m, hm, hrest⟩ := ih hruns hnext (by rw [hparams]; omega)
      exact ⟨771 + m, by omega, by rw [coreRun_add, hvisit, hrest, hscan]⟩

/-! ### SEARCH left running (42_search.md R82, R91, R96) -/

theorem coreRun_search_whole {s : State} (hrunning : ∃ l, s.curOp = some l ∧ l.op = .search)
    (hpos : s.pos = Position.start) :
    ∃ n, n ≤ 771 * visitCount s.params + 1 ∧ coreRun n s = ruleSearch Config.params s := by
  by_cases hbs : readParam s.params .blockSize = 0
  · refine ⟨1, by omega, ?_⟩
    rw [coreRun_succ, coreRun_zero, coreStep_search hrunning, ruleSearch_of_zero hbs]
    exact if_pos hbs
  · have hstart : VisitStarts 0 s := by
      simp [VisitStarts, hpos, Position.start, visitXX, visitYY]
    obtain ⟨fuel, hfuel⟩ := Nat.exists_eq_add_of_lt (visitCount_pos hbs)
    rw [Nat.add_assoc] at hfuel
    obtain ⟨m, hm, hrun⟩ := coreRun_scan ⟨hrunning, hbs⟩ hstart hfuel.symm
    refine ⟨m, by omega, ?_⟩
    rw [hrun, ruleSearch_of_ne_zero hbs, hfuel, Nat.zero_add]

/-- The whole rule does not look at the inputs to come. -/
theorem ruleSearch_setInputs (p : Params) (s : State) (is : List Input) :
    ruleSearch p { s with inputs := is } = { ruleSearch p s with inputs := is } := by
  by_cases hbs : readParam s.params .blockSize = 0
  · rw [ruleSearch_of_zero (s := { s with inputs := is }) hbs, ruleSearch_of_zero hbs]
    rfl
  · rcases firstSuccess_or_blockFails p s.params with ⟨n, hfirst⟩ | hfails
    · rw [ruleSearch_of_firstSuccess (s := { s with inputs := is }) hbs hfirst, ruleSearch_of_firstSuccess hbs hfirst]
      rfl
    · rw [ruleSearch_of_blockFails (s := { s with inputs := is }) hbs hfails, ruleSearch_of_blockFails hbs hfails]
      rfl

/-- Settles O53: START puts the sequencer before visit 0, and the scan is reached visit by visit. -/
theorem searchStepsReachTheWhole : Obligations.SearchStepsReachTheWhole := by
  intro irqEn cin rot s x rest hidle
  obtain ⟨n, hn, hrun⟩ := coreRun_search_whole (s := searchStarted irqEn cin rot { s with inputs := x :: rest })
    ⟨_, rfl, rfl⟩ rfl
  refine ⟨_, _, ?_, exec_search_whole irqEn cin rot hidle rfl, n, hn,
    hrun.trans (ruleSearch_setInputs Config.params (searchStarted irqEn cin rot { s with inputs := [] }) (x :: rest))⟩
  rw [← acceptStart_search]
  exact startOp_left_running .search irqEn cin rot (fun _ => ruleSearch Config.params) _ hidle (List.cons_ne_nil x rest)

end Sys2Proof.Machine
end

section
/-! PROOF. The control rules: the STATUS write, the soft reset, the CTRL write without a strobe, NOP, and the START that is
accepted (O16, O24 to O26, O39). -/

namespace Sys2Proof.Machine

/-! ### The STATUS write (43_control.md R102) -/

theorem hostWrite_status (v : Word32) (s : State) : hostWrite .status v s = acknowledge v s := if_pos rfl

/-- A host write to STATUS, busy or not (20_memory.md R42). -/
theorem step_of_status_write {s : State} {v : Word32} {rest : List Input}
    (hs : s.inputs = .access (.write 0x004 4 v) :: rest) :
    step s = .next (acknowledge v { s with inputs := rest, resp := some .writeOk }) :=
  (step_of_write hs (by decide) rfl (by decide)).trans (congrArg _ (hostWrite_status v _))

/-- Each of the two flags is cleared by its bit and else kept (10_state.md R22). -/
theorem clearByOnes_eq_ite (v : Word32) (st : Status) :
    clearByOnes v st =
      { st with
        done := if v.getLsbD 1 then false else st.done
        wrIgn := if v.getLsbD 8 then false else st.wrIgn } := by
  have hclear : ∀ flag bit : Bool, (flag && !bit) = if bit then false else flag := by decide
  rw [clearByOnes, hclear, hclear]

/-- With DONE cleared the interrupt output is low, whatever IRQ_EN is (60_exceptions.md R110). -/
theorem acknowledge_irq {v : Word32} (hbit : v.getLsbD 1 = true) (s : State) : (acknowledge v s).irq = false := by
  simp [State.irq, clearByOnes, hbit]

/-- Settles O16: the write is the acknowledgement, whose one effect is on the two flags. -/
theorem statusWriteClearsByOnes : Obligations.StatusWriteClearsByOnes := by
  intro s v rest hs
  refine ⟨_, step_of_status_write hs, ?_, fun hbit => acknowledge_irq hbit _⟩
  rw [acknowledge, clearByOnes_eq_ite]

/-! ### The soft reset and the CTRL write without a strobe (43_control.md R98, R100, R103) -/

theorem exec_srst (s : State) : exec .srst s = .next (resetCore s) := rfl

/-- Settles O24: the reset event looks at no register, and its state is the reset state written out. -/
theorem softResetFromAnyState : Obligations.SoftResetFromAnyState := fun s => by
  rw [exec_srst, resetCore, State.reset]
  rfl

theorem exec_ctrlset_idle (irqEn cin : Bool) (op : BitVec 4) (rot : BitVec 6) {s : State} (hidle : s.busy = false) :
    exec (.ctrlset irqEn cin op rot) s = .next (setCtrl irqEn cin op rot s) := by
  simp [exec, execCtrlset, hidle]

/-- Settles O25: an idle core takes the branch that writes the fields. -/
theorem ctrlWriteSetsTheFields : Obligations.CtrlWriteSetsTheFields := fun irqEn cin op rot _ hidle =>
  exec_ctrlset_idle irqEn cin op rot hidle

/-! ### NOP and the START that is accepted (43_control.md R99, R101) -/

/-- Settles O26: NOP only completes, which undoes the latch of its START. -/
theorem nopCompletes : Obligations.NopCompletes := by
  intro irqEn cin rot s hidle hinputs
  refine (startOp_whole .nop irqEn cin rot (fun _ => ruleNop) s hidle hinputs).trans ?_
  rw [acceptStart_of_ne (by decide) (by decide), ruleNop, complete, (busy_eq_false_iff s).mp hidle]
  rfl

/-- A code of R53 with an input to come: only the fields and START, whatever the rule of the operation (log entry 2). -/
theorem exec_decodeStart_left_running (o : Op) (irqEn cin : Bool) (rot : BitVec 6) {s : State} (hidle : s.busy = false)
    (hinputs : s.inputs ≠ []) :
    exec (decodeStart o.code irqEn cin rot) s = .next (acceptStart o (setCtrl irqEn cin o.code rot s)) := by
  obtain ⟨rule, hexec⟩ := exec_decodeStart_code o irqEn cin rot s
  rw [hexec, startOp_left_running o irqEn cin rot rule s hidle hinputs]

/-- START of COMPRESS keeps FOUND and puts the sequencer before its first statement (41_mix_compress.md R78). -/
theorem acceptStart_compress (s : State) :
    acceptStart .compress s =
      { s with
        status := { s.status with done := false, err := 0 }
        curOp := some (sample .compress s)
        pos := { s.pos with r := 0, i := 0, k := 0 } } := by
  rw [acceptStart, decide_eq_true (by decide), Bool.and_true]
  rfl

/-- Settles O39: each operation is left running in the state of its accepted START; COMPRESS and SEARCH also move the
sequencer, and SEARCH clears FOUND. -/
theorem startIsAccepted : Obligations.StartIsAccepted := by
  intro irqEn cin rot s hidle hinputs
  have accepted (o : Op) := exec_decodeStart_left_running o irqEn cin rot hidle hinputs
  have plain (o : Op) (hsearch : o ≠ .search) (hcompress : o ≠ .compress) :=
    (accepted o).trans (congrArg _ (acceptStart_of_ne hsearch hcompress _))
  exact ⟨plain .nop (by decide) (by decide), plain .loadiv (by decide) (by decide), plain .mix (by decide) (by decide),
    (accepted .compress).trans (congrArg _ (acceptStart_compress _)),
    (accepted .search).trans (congrArg _ (acceptStart_search irqEn cin rot s)),
    plain .add64 (by decide) (by decide), plain .rotr64 (by decide) (by decide)⟩

end Sys2Proof.Machine
end

section
/-! PROOF. What a step can answer, the invariant and safety of the whole machine, and the small rules of 60_exceptions.md (O19,
O20, O38, O58, O59). -/

namespace Sys2Proof.Machine

/-! ### What a step can answer (20_memory.md R35, R37; 43_control.md R98; 60_exceptions.md R109, R114) -/

/-- Everything a command word can answer on `s`: the reset, a dropped write, a write of the fields of CTRL, an accepted START,
or an operation that has ended, with or without an error. -/
inductive CommandAnswer (s : State) : State → Prop where
  | reset : CommandAnswer s (resetCore s)
  | dropped : CommandAnswer s (dropWrite s)
  | fields (q c : Bool) (op : BitVec 4) (n : BitVec 6) : CommandAnswer s (setCtrl q c op n s)
  | started (o : Op) (q c : Bool) (n : BitVec 6) : CommandAnswer s (acceptStart o (setCtrl q c o.code n s))
  | ended {e : ErrCode} {u t : State} (hend : t = complete e u) (hinputs : t.inputs = s.inputs) : CommandAnswer s t

theorem ruleSearch_eq_complete (p : Params) (s : State) : ∃ e u, ruleSearch p s = complete e u := by
  by_cases hbs : readParam s.params .blockSize = 0
  · exact ⟨_, _, ruleSearch_of_zero hbs⟩
  · exact ⟨_, _, ruleSearch_of_ne_zero hbs⟩

/-- A command word with a code of R53 never stops the machine: its rule is a completion. -/
theorem startOp_answers {o : Op} {rule : Latch → State → State} (q c : Bool) (n : BitVec 6) (s : State)
    (hframe : ∀ l u, RunFrame o u (rule l u)) (hend : ∀ l u, ∃ e v, rule l u = complete e v) :
    ∃ t, startOp o q c n rule s = .next t ∧ CommandAnswer s t := by
  rcases startOp_cases o q c n rule s with ⟨-, h⟩ | ⟨-, -, h⟩ | ⟨-, -, h⟩
  · exact ⟨_, h, .dropped⟩
  · obtain ⟨e, u, hrule⟩ := hend (sample o (setCtrl q c o.code n s)) (acceptStart o (setCtrl q c o.code n s))
    exact ⟨_, h, .ended hrule (hframe ..).inputs⟩
  · exact ⟨_, h, .started o q c n⟩

theorem startReserved_answers (q c : Bool) (op : BitVec 4) (n : BitVec 6) (s : State) :
    ∃ t, startReserved q c op n s = .next t ∧ CommandAnswer s t := by
  unfold startReserved
  split
  · exact ⟨_, rfl, .dropped⟩
  · exact ⟨_, rfl, .ended rfl rfl⟩

/-- No command word stops the machine (R109, R114). -/
theorem exec_answers (i : Instr) (s : State) : ∃ t, exec i s = .next t ∧ CommandAnswer s t := by
  cases i with
  | nop q c n => exact startOp_answers q c n s (fun _ => ruleNop_runFrame) fun _ _ => ⟨_, _, rfl⟩
  | loadiv q c n => exact startOp_answers q c n s (fun _ => ruleLoadiv_runFrame _) fun _ _ => ⟨_, _, rfl⟩
  | mix q c n => exact startOp_answers q c n s ruleMix_runFrame fun _ _ => ⟨_, _, rfl⟩
  | compress q c n => exact startOp_answers q c n s (fun _ => ruleCompress_runFrame _) fun _ _ => ⟨_, _, rfl⟩
  | search q c n => exact startOp_answers q c n s (fun _ => ruleSearch_runFrame _) fun _ => ruleSearch_eq_complete _
  | add64 q c n => exact startOp_answers q c n s ruleAdd64_runFrame fun _ _ => ⟨_, _, rfl⟩
  | rotr64 q c n => exact startOp_answers q c n s ruleRotr64_runFrame fun _ _ => ⟨_, _, rfl⟩
  | illegal7 q c n => exact startReserved_answers q c 0x7 n s
  | illegal8F op q c n => exact startReserved_answers q c op n s
  | srst => exact ⟨_, rfl, .reset⟩
  | ctrlset q c op n =>
    dsimp only [exec, execCtrlset]
    split
    · exact ⟨_, rfl, .dropped⟩
    · exact ⟨_, rfl, .fields q c op n⟩

/-- Everything a step can answer on `s`, from which the input of the step is already taken: the core's own steps, the hardware
reset, an access that is refused, a read, a write, or a command word. -/
inductive StepAnswer (s : State) : State → Prop where
  | core (n : Nat) : StepAnswer s (coreRun n s)
  | reset : StepAnswer s (resetCore s)
  | refused (a : Access) : StepAnswer s (busError a s)
  | read (r : Reg) : StepAnswer s (hostRead r s)
  | write (r : Reg) (v : Word32) : StepAnswer s (hostWrite r v { s with resp := some .writeOk })
  | command {t : State} (h : CommandAnswer { s with resp := some .writeOk } t) : StepAnswer s t

/-- No access inside the window stops the machine (R35, R37). -/
theorem step_of_access_answers {s : State} {a : Access} {rest : List Input} (hs : s.inputs = .access a :: rest)
    (hin : a.inWindow = true) : ∃ t, step s = .next t ∧ StepAnswer { s with inputs := rest } t := by
  rw [step_of_access s a rest hs]
  rcases haligned : a.aligned with _ | _
  · rw [deliver_misaligned a _ hin haligned]
    exact ⟨_, rfl, .refused a⟩
  · cases a with
    | read off size =>
      rw [deliver_read off size _ hin haligned]
      exact ⟨_, rfl, .read _⟩
    | write off size v =>
      by_cases hctrl : Reg.ofOffset off = .ctrl
      · rw [deliver_command off size v _ hin haligned hctrl]
        obtain ⟨t, hexec, hanswer⟩ := exec_answers (decodeWord v) { s with inputs := rest, resp := some .writeOk }
        exact ⟨t, hexec, .command hanswer⟩
      · rw [deliver_write off size v _ hin haligned hctrl]
        exact ⟨_, rfl, .write _ v⟩

/-- A step takes its input and answers it, or stops at an access outside the window (log entry 8). -/
theorem step_cases (s : State) :
    (∃ t, step s = .next t ∧ StepAnswer { s with inputs := s.inputs.tail } t) ∨
    ∃ a rest, s.inputs = .access a :: rest ∧ a.inWindow = false ∧ step s = .fault (.outsideWindow a.addr) := by
  rcases hs : s.inputs with _ | ⟨_ | n | _, rest⟩
  case nil =>
    have hnone : { s with inputs := [] } = s := by rw [← hs]
    refine .inl ⟨_, step_of_no_input s hs, ?_⟩
    rw [List.tail_nil, hnone]
    exact .core 1
  case access a =>
    rcases hin : a.inWindow with _ | _
    · refine .inr ⟨a, rest, rfl, hin, ?_⟩
      rw [step_of_access s a rest hs, deliver_outside a _ hin]
    · exact .inl (step_of_access_answers hs hin)
  case core => exact .inl ⟨_, step_of_core s n rest hs, .core n⟩
  case reset => exact .inl ⟨_, step_of_reset s rest hs, .reset⟩

/-! ### The invariant (10_state.md R31; 60_exceptions.md R104, R105, R113) -/

theorem ErrCode.code_le_two (e : ErrCode) : e.code.toNat ≤ 2 := by cases e <;> decide

/-- Without a running operation the invariant speaks of ERR alone. -/
theorem inv_of_idle {s : State} (hidle : s.curOp = none) (herr : s.errInRange) : s.Inv :=
  ⟨fun hbusy => by simp [hidle] at hbusy, herr, fun l hl => by simp [hidle] at hl⟩

/-- A completion meets the invariant, whatever the state before it (R105). -/
theorem complete_inv (e : ErrCode) (s : State) : (complete e s).Inv := inv_of_idle rfl e.code_le_two

theorem resetCore_inv (s : State) : (resetCore s).Inv := inv_of_idle rfl (Nat.zero_le 2)

/-- An accepted START meets the invariant, whatever the state before it: it clears DONE and ERR, and SEARCH starts at the first
coordinate with FOUND cleared (R97, R99). -/
theorem acceptStart_inv (o : Op) (s : State) : (acceptStart o s).Inv := by
  refine ⟨fun _ => ⟨rfl, rfl⟩, Nat.zero_le 2, fun l hl hop => ?_⟩
  obtain rfl : sample o s = l := by simpa using hl
  obtain rfl : o = .search := hop
  refine ⟨fun hbs => ?_, by simp⟩
  have hpos : 0 < readParam s.params .blockSize := (BitVec.pos_iff_ne_zero _).mpr hbs
  exact ⟨hpos, hpos⟩

/-- The scan indices stand inside a block of this size (R31, R83). -/
def Position.InBlock (bs : Word32) (q : Position) : Prop := q.xx < bs ∧ q.yy < bs

theorem Position.InBlock.nextStatement {bs : Word32} {q : Position} (h : q.InBlock bs) : q.nextStatement.InBlock bs := by
  unfold Position.nextStatement
  split
  · exact h
  · split <;> exact h

/-- The scan moves to a coordinate inside the block, or stays where it ends (R83, R90). -/
theorem searchAdvance_inBlock {s : State} (h : s.pos.InBlock (readParam s.params .blockSize)) :
    (searchAdvance s).pos.InBlock (readParam s.params .blockSize) := by
  obtain ⟨hxx, hyy⟩ := h
  dsimp only [searchAdvance]
  split
  next hcol => exact ⟨hcol, hyy⟩
  next =>
    split
    next hrow => exact ⟨by bv_omega, hrow⟩
    next => exact ⟨hxx, hyy⟩

theorem searchTest_inBlock (p : Params) {s : State} (h : s.pos.InBlock (readParam s.params .blockSize)) :
    (searchTest p s).pos.InBlock (readParam s.params .blockSize) := by
  dsimp only [searchTest]
  split
  · exact h
  · exact searchAdvance_inBlock (s := { s with check := checkValue p s.S }) h

/-- A step of SEARCH keeps the scan inside the block: only TEST moves it (R97). -/
theorem searchStep_inBlock (p : Params) {s : State} (h : s.pos.InBlock (readParam s.params .blockSize)) :
    (searchStep p s).pos.InBlock (readParam s.params .blockSize) := by
  unfold searchStep
  split
  · exact h
  · cases s.pos.phase with
    | load | build => exact h
    | rounds =>
      dsimp only
      split
      · exact h
      · exact h.nextStatement
    | test => exact searchTest_inBlock p h

/-- An operation that runs on keeps its latch and STATUS, so only the scan indices of a SEARCH are left to look at; a
completion meets the invariant by itself. -/
theorem coreStep_inv {s : State} (h : s.Inv) : (coreStep s).Inv := by
  rcases hcur : s.curOp with _ | l
  · rwa [coreStep_idle s (busy_of_none s hcur)]
  · rcases coreStep_runsOnOrCompletes s l hcur with ⟨hcurOp, hstatus⟩ | ⟨u, hu⟩
    · obtain ⟨hquiet, herr, hsearch⟩ := h
      refine ⟨?_, ?_, fun l' hl' hop => ?_⟩
      · simpa only [State.quietWhileBusy, State.busy, hcurOp, hstatus] using hquiet
      · simpa only [State.errInRange, hstatus] using herr
      · have hl : s.curOp = some l' := hcurOp.symm.trans hl'
        obtain ⟨hblock, hfound⟩ := hsearch l' hl hop
        rw [(coreStep_runFrame s l hcur).params, hstatus, coreStep_search ⟨l', hl, hop⟩]
        exact ⟨fun hbs => searchStep_inBlock Config.params (hblock hbs), hfound⟩
    · rw [hu]
      exact complete_inv _ u

theorem coreRun_inv (n : Nat) {s : State} (h : s.Inv) : (coreRun n s).Inv := by
  induction n generalizing s with
  | zero => exact h
  | succ n ih => exact ih (coreStep_inv h)

/-- An acknowledgement only clears DONE and WR_IGN (R102, R113). -/
theorem acknowledge_inv (v : Word32) {s : State} (h : s.Inv) : (acknowledge v s).Inv := by
  obtain ⟨hquiet, herr, hsearch⟩ := h
  refine ⟨fun hbusy => ?_, herr, hsearch⟩
  obtain ⟨hdone, herr0⟩ := hquiet hbusy
  exact ⟨by simp [clearByOnes, hdone], herr0⟩

@[simp] theorem writeReg_status (s : State) (r : Reg) (v : Word32) : (writeReg s r v).status = s.status := by
  cases r <;> rfl

/-- BLOCK_SIZE can change under the scan only when no SEARCH runs: a write while BUSY is dropped (R42). -/
theorem hostWrite_inv (r : Reg) (v : Word32) {s : State} (h : s.Inv) : (hostWrite r v s).Inv := by
  rcases hostWrite_cases r v s with ⟨-, hw⟩ | ⟨-, -, -, hw⟩ | ⟨-, -, hidle, hw⟩ | ⟨-, -, hw⟩ <;> rw [hw]
  · exact acknowledge_inv v h
  · exact h
  · obtain ⟨-, herr, -⟩ := h
    refine inv_of_idle ((writeReg_curOp s r v).trans ((busy_eq_false_iff s).mp hidle)) ?_
    rwa [State.errInRange, writeReg_status]
  · exact h

theorem CommandAnswer.inv {s t : State} (h : s.Inv) (ht : CommandAnswer s t) : t.Inv := by
  cases ht with
  | reset => exact resetCore_inv s
  | dropped | fields => exact h
  | started o q c n => exact acceptStart_inv o _
  | ended hend => exact hend ▸ complete_inv _ _

theorem StepAnswer.inv {s t : State} (h : s.Inv) (ht : StepAnswer s t) : t.Inv := by
  cases ht with
  | core n => exact coreRun_inv n h
  | reset => exact resetCore_inv s
  | refused a => cases a <;> exact h
  | read r => rcases hostRead_cases r s with ⟨-, -, hr⟩ | ⟨-, hr⟩ <;> rw [hr] <;> exact h
  | write r v => exact hostWrite_inv r v h
  | command hcommand => exact hcommand.inv (s := { s with resp := some .writeOk }) h

/-- Settles O58: the invariant does not speak of the inputs, and everything that a step can answer keeps it. -/
theorem stepKeepsTheInvariant : Obligations.StepKeepsTheInvariant := by
  intro s t hinv hstep
  rcases step_cases s with ⟨t', hnext, hanswer⟩ | ⟨a, rest, -, -, hfault⟩
  · cases hnext.symm.trans hstep
    exact hanswer.inv (s := { s with inputs := s.inputs.tail }) hinv
  · cases hfault.symm.trans hstep

/-! ### Safety (20_memory.md R35; 60_exceptions.md R109, R114) -/

theorem coreStep_inputs (s : State) : (coreStep s).inputs = s.inputs := by
  rcases hcur : s.curOp with _ | l
  · rw [coreStep_idle s (busy_of_none s hcur)]
  · exact (coreStep_runFrame s l hcur).inputs

theorem coreRun_inputs (n : Nat) (s : State) : (coreRun n s).inputs = s.inputs := by
  induction n generalizing s with
  | zero => rfl
  | succ n ih => exact (ih (coreStep s)).trans (coreStep_inputs s)

theorem CommandAnswer.inputs_eq {s t : State} (ht : CommandAnswer s t) : t.inputs = s.inputs := by
  cases ht with
  | ended _ hinputs => exact hinputs
  | _ => rfl

/-- Nothing but the step itself takes an input. -/
theorem StepAnswer.inputs_eq {s t : State} (ht : StepAnswer s t) : t.inputs = s.inputs := by
  cases ht with
  | core n => exact coreRun_inputs n s
  | reset => rfl
  | refused a => cases a <;> rfl
  | read r => rcases hostRead_cases r s with ⟨-, -, hr⟩ | ⟨-, hr⟩ <;> simp [hr]
  | write r v =>
    rcases hostWrite_cases r v { s with resp := some .writeOk } with
      ⟨-, hw⟩ | ⟨-, -, -, hw⟩ | ⟨-, -, -, hw⟩ | ⟨-, -, hw⟩ <;> simp [hw]
  | command hcommand => exact hcommand.inputs_eq

/-- Settles O59: only an access outside the window stops a step, and a step leaves the inputs after its own as they are. -/
theorem safeStatesNeverStop : Obligations.SafeStatesNeverStop := by
  intro s hsafe
  have hall : ∀ x ∈ s.inputs, x.inWindow = true := List.all_eq_true.mp hsafe
  rcases step_cases s with ⟨t, hnext, hanswer⟩ | ⟨a, rest, hs, hout, -⟩
  · refine ⟨t, hnext, List.all_eq_true.mpr fun x hx => hall x ?_⟩
    rw [hanswer.inputs_eq] at hx
    exact List.mem_of_mem_tail hx
  · have hin : a.inWindow = true := hall (.access a) (by simp [hs])
    exact absurd hin (by simp [hout])

/-! ### The interrupt, waiting, and the reserved codes (60_exceptions.md R108, R110, R119) -/

/-- Settles O19: the two bits of the words that the host reads are the two flags. -/
theorem interruptIsALevel : Obligations.InterruptIsALevel := by
  intro s
  obtain ⟨-, hdone, -⟩ := statusWord_fields s
  obtain ⟨-, hirqEn, -⟩ := ctrlWord_fields s.ctrl
  rw [State.irq, readReg, readReg, hdone, hirqEn]

/-- Settles O20: with no input to come the step is the core's, and an idle core has none to take. -/
theorem idleMachineWaits : Obligations.IdleMachineWaits := by
  intro s hidle hinputs
  rw [step_of_no_input s hinputs, coreStep_idle s hidle]

/-- Settles O38: every reserved code is the one START that raises ILLEGAL_OP. -/
theorem reservedCodeIsIllegalOp : Obligations.ReservedCodeIsIllegalOp := fun irqEn cin op rot s hidle =>
  ⟨startReserved_idle irqEn cin 0x7 rot s hidle, fun _ => startReserved_idle irqEn cin op rot s hidle⟩

end Sys2Proof.Machine
end

section
/-! PROOF. The state after reset: what its words read, its invariant, and the hardware reset (O21, O22, O57). -/

namespace Sys2Proof.Machine

/-! ### The state after reset (70_reset_and_hazards.md R122) -/

theorem readParam_reset (p : Param) : readParam State.reset.params p = 0 := by
  simp [readParam, State.reset]

theorem reset_files (i : Fin 16) : State.reset.S[i] = 0 ∧ State.reset.M[i] = 0 := by
  simp [State.reset]

theorem readHalf_zero (h : Half) : readHalf h 0 = 0 := by cases h <;> decide

/-- The three packed words are 0 field by field, a parameter by its file, the rest as halves of 64-bit zeros; ID is constant. -/
theorem readReg_reset (r : Reg) : readReg State.reset r = if r = .id then 0x4E504F57 else 0 := by
  cases r with
  | ctrl | status | mixSel => decide
  | result | check | id | reserved => rfl
  | param p => exact readParam_reset p
  | aluA h | aluB h | aluR h => exact readHalf_zero h
  | state i h => exact (congrArg (readHalf h) (reset_files i).1).trans (readHalf_zero h)
  | msg i h => exact (congrArg (readHalf h) (reset_files i).2).trans (readHalf_zero h)

/-- Settles O21: the words and the files by their lemmas; irq, the latch and the position are fields of the reset state. -/
theorem resetStateIsZero : Obligations.ResetStateIsZero :=
  ⟨readReg_reset, rfl, rfl, rfl, reset_files⟩

/-- Settles O57: no operation runs after reset, so the invariant speaks of ERR alone, which is 0. -/
theorem resetMeetsTheInvariant : Obligations.ResetMeetsTheInvariant :=
  inv_of_idle rfl (Nat.zero_le 2)

/-! ### The hardware reset (70_reset_and_hazards.md R121) -/

/-- Settles O22: the reset input and SRST are one event, the reset of the core. -/
theorem hardwareResetIsTheSoftReset : Obligations.HardwareResetIsTheSoftReset := by
  intro s rest hs
  have hstep := step_of_reset s rest hs
  exact ⟨hstep, (exec_srst _).trans hstep.symm⟩

end Sys2Proof.Machine
end
